-- ==== Sys2Proof/Word.lean ====
section
/-! DEFINITION. The part's plainest words: bytes, sample indices, samples, the two lines. -/

namespace Sys2Proof

/-- One byte of a frame (R164). -/
abbrev Byte := BitVec 8

/-- A 32-bit sample index, which wraps (R66). -/
abbrev Index := BitVec 32

/-- One 24-bit two's-complement component sample (R165). -/
abbrev Sample := BitVec 24

/-- A station number, line × 32 + position, 0 to 63 (Table 0.2). -/
abbrev Station := Fin 64

/-- A status code of Table 2.3, 0 to 15. UNKNOWN is `none` where a code may be UNKNOWN (R22). -/
abbrev StatusCode := Fin 16

/-- The two line chains: Line A is line 0, Line B is line 1 (Table 0.2). -/
inductive Line where
  | a
  | b
deriving DecidableEq, Repr

/-- One thing of a kind for each line. -/
structure PerLine (α : Type) where
  a : α
  b : α
deriving DecidableEq, Repr

/-- The line's own one of the two. -/
def PerLine.get {α : Type} (p : PerLine α) : Line → α
  | .a => p.a
  | .b => p.b

/-- The pair with the line's own one replaced. -/
def PerLine.set {α : Type} (p : PerLine α) (l : Line) (x : α) : PerLine α :=
  match l with
  | .a => { p with a := x }
  | .b => { p with b := x }

/-- The three component samples of one station at one instant. -/
structure Samples where
  c1 : Sample
  c2 : Sample
  c3 : Sample
deriving DecidableEq, Repr

/-- Three samples of value 0, as every reset of R32 leaves them. -/
def Samples.zero : Samples := ⟨0, 0, 0⟩

end Sys2Proof
end

