-- ==== Sys2Proof/Syntax.lean ====
section
/-! DEFINITION. The commands of the block: one constructor per row of spec/opcode_table.json.
The rows give no fields; the operands are what the row's rule says the step acts on.
A recorder command's own parameters arrive in a downlink frame and wait in the control receive
buffer (R138), from which its row takes them (R148), so those rows carry no operand. -/

namespace Sys2Proof

/-- The three blocks that report "switched" (R153). -/
inductive SwitchBlock where
  | lineA
  | lineB
  | associator
deriving DecidableEq, Repr

/-- The steps of the part (95_what_each_step_holds.md). -/
inductive Instr where
  /-- R1: bytes arrive on a line and its receiver hunts for the next well-formed frame. -/
  | lineFrameReceived (line : Line) (bytes : List Byte)
  /-- R7: the line's silence timer expires. -/
  | silenceTimerExpiry (line : Line)
  /-- R16: the idle line transmitter starts the oldest field command. -/
  | fieldCommandTxStart (line : Line)
  /-- R16: the last byte of the field command has been sent. -/
  | fieldCommandTxDone (line : Line)
  /-- R59: the detector bank chooses a line and takes one instant whole. -/
  | takeInstant
  /-- R49: an instant is taken with which the station's warm-up count reaches 2^l. -/
  | warmupEnd (station : Nat)
  /-- R51: an instant is taken with which the station's debounce count reaches 0. -/
  | debounceComplete (station : Nat)
  /-- R52: an instant is taken with which the station's ON count reaches M. -/
  | onMaxDuration (station : Nat)
  /-- R53: an instant is taken with which the station's hold count reaches 0. -/
  | holdEnd (station : Nat)
  /-- R57: the detector bank performs a line-leave that the line port reported. -/
  | detectorLineLeave (line : Line)
  /-- R83: the associator takes a PICK entry. -/
  | associatorTakePick
  /-- R92: the associator takes a LINE MARK. -/
  | associatorTakeLineMark
  /-- R106: the capture engine takes a DECLARE message. -/
  | declareMessageTaken
  /-- R114: the bulk copy of a record's station entry reads one ring slot. -/
  | bulkCopyRead (place : Nat) (station : Nat)
  /-- R119: the capture engine takes a CLOSE message. -/
  | closeMessageTaken
  /-- R136: bytes arrive on the downlink and the receiver hunts for the next well-formed frame. -/
  | downlinkFrameReceived (bytes : List Byte)
  /-- R141: the arbiter takes the oldest frame of the highest class waiting. -/
  | arbiterChoice
  /-- R142: the last byte of an uplink frame has been sent. -/
  | uplinkTxDone
  /-- R129: the readout unit fills the empty staged DATA place. -/
  | stageDataFrame
  | identify
  | readStatus
  | readStationStatus
  | writeSettings
  | readSettings
  | loadTable
  | readTable
  | copyBank
  | switchBank
  | cancelSwitch
  /-- R158: a block's report that it has switched reaches the unit controller. -/
  | switchedReport (block : SwitchBlock)
  | restartDetectors
  | listEvents
  | readEvent
  | fetch
  | cancelReadout
  | release
  /-- R149: the command at the head of the control receive buffer names no command. -/
  | unknownCommand
  /-- R161: a RESET of kind ENGINE. -/
  | resetEngine
  /-- R161: a RESET of kind FULL. -/
  | resetFull
  /-- R162: RSTn is asserted. -/
  | rstnAsserted
  /-- R162: RSTn is released with the UA straps at this level. -/
  | rstnReleased (straps : Nat)
  /-- R141: the recorder asserts TRDY. -/
  | trdyAsserted
  /-- R142: the recorder withdraws TRDY. -/
  | trdyWithdrawn
  /-- R161: a RESET of neither kind, or of the wrong length, is refused. -/
  | reset
deriving DecidableEq, Repr

end Sys2Proof
end

