-- ==== Sys2Proof/Decode.lean ====
section
/-! DEFINITION. Words that spell a command: no row of spec/opcode_table.json gives any bits
(every row's "fields" is empty), so no word spells one (log 24).
The byte formats of the part's own frames stand in Machine/Frames.lean. -/

namespace Sys2Proof

/-- The command that a word of `nbits` bits spells by the table's bits: none, the table gives none. -/
def decodeTableWord (_nbits _w : Nat) : Option Instr := none

end Sys2Proof
end

