-- ==== Sys2Proof/Machine/Serial.lean ====
section
/-! DEFINITION. Serial order of sample indices (R66) and the numbering of stations. -/

namespace Sys2Proof.Machine

/-- R66: a precedes b when (b − a) mod 2^32 lies in 1 to 2^31 − 1. -/
def precedes (a b : Index) : Bool :=
  decide (1 ≤ (b - a).toNat) && decide ((b - a).toNat ≤ 2147483647)

/-- R66: b is at or after a when b equals a or a precedes b. -/
def atOrAfter (b a : Index) : Bool := decide (b = a) || precedes a b

/-- R66: the earliest of a list, its first member given apart. -/
def earliestOf (first : Index) (rest : List Index) : Index :=
  rest.foldl (fun c i => if precedes i c then i else c) first

/-- R66: the serial distance |a − b|. -/
def serialDistance (a b : Index) : Nat := min (a - b).toNat (b - a).toNat

/-- R66: the sum of an index and a count, mod 2^32. -/
def indexPlus (i : Index) (n : Nat) : Index := i + BitVec.ofNat 32 n

/-- R66: the difference of an index and a count, mod 2^32. -/
def indexMinus (i : Index) (n : Nat) : Index := i - BitVec.ofNat 32 n

/-- The line of a station: stations 0 to 31 are on Line A, 32 to 63 on Line B (chapter 1). -/
def lineOf (i : Station) : Line := if i.val < 32 then .a else .b

/-- The place of a station on its line, 0 to 31 (Table 0.2). -/
def positionOf (i : Station) : Fin 32 := ⟨i.val % 32, Nat.mod_lt _ (by decide)⟩

/-- All stations in ascending order. -/
def allStations : List Station := List.ofFn (fun i : Station => i)

/-- A line's stations in ascending position. -/
def stationsOf (l : Line) : List Station := allStations.filter (fun i => decide (lineOf i = l))

/-- The stations of a range, ascending (R27, R58). -/
def stationRange (first last : Nat) : List Station :=
  allStations.filter (fun i => decide (first ≤ i.val) && decide (i.val ≤ last))

/-- The table whose entry i is `g i`. -/
def tabulate {α : Type} {n : Nat} (g : Fin n → α) : Vector α n := ⟨(List.ofFn g).toArray, by simp⟩

end Sys2Proof.Machine
end

