-- ==== Sys2Proof/Config.lean ====
section
/-! DEFINITION. The fixed sizes and limits of the part, each with the rule that states it.
The manual leaves no result of any command undefined, so there is no free value here. -/

namespace Sys2Proof.Config

/-- Greatest LENGTH of an envelope (R1, R164). -/
def maxLength : Nat := 2047
/-- Greatest line-frame payload that a PASS frame can carry (R4, R140). -/
def maxPassPayload : Nat := 2041
/-- Places of a line's input buffer (R12). -/
def inputPlaces : Nat := 4
/-- Places of a line's field-command queue (R15). -/
def fieldPlaces : Nat := 4
/-- Contiguous frames that bring a line from SYNC to LIVE (R6). -/
def syncRun : Nat := 4
/-- Backward frames in a row that send a line to SYNC (R10). -/
def backwardRun : Nat := 4
/-- Slots of one history ring (R29). -/
def ringSlots : Nat := 4096
/-- Greatest occupancy at which a PICK is admitted (R70). -/
def pickAdmission : Nat := 253
/-- Places of the event channel (R71). -/
def channelPlaces : Nat := 64
/-- Free places of the event channel that the associator needs before it takes an entry (R71). -/
def channelReserve : Nat := 17
/-- Blocks of the pool (R110). -/
def poolBlocks : Nat := 1024
/-- Places of one block (R110). -/
def blockPlaces : Nat := 256
/-- Commands of the control receive buffer (R138). -/
def controlPlaces : Nat := 4
/-- Frames of the PASS queue (R140). -/
def passPlaces : Nat := 8
/-- Frames of the REPLY queue (R140). -/
def replyPlaces : Nat := 4
/-- Frames of the NOTICE queue (R140). -/
def noticePlaces : Nat := 16
/-- Instants of one CAPTURE DATA frame, at most (R128). -/
def frameInstants : Nat := 64
/-- The group address (R137). -/
def groupAddress : Nat := 31
/-- The part code that IDENTIFY reports (R163). -/
def partCode : Nat := 0x6420
/-- The revision code that IDENTIFY reports (R163). -/
def revision : Nat := 1
/-- The top of the open-order counter (R82). -/
def maxOpenOrder : Nat := 4294967295
/-- Greatest size of a high-pass value (R39). -/
def maxHighPass : Int := 8388607
/-- Greatest component energy, 2^30 − 1 (R40). -/
def maxComponentEnergy : Nat := 1073741823
/-- Greatest ratio, and greatest count of instants in ON (R44, R52). -/
def maxRatio : Nat := 65535

end Sys2Proof.Config
end

