-- ==== Sys2Proof/Machine/State.lean ====
section
/-! DEFINITION. The state of the part, block by block, as plain data, and its value after
power-on reset. Each structure names the rule that gives its fields. -/

namespace Sys2Proof.Machine

/-! ## Configuration banks (chapters 2, 3, 6) -/

/-- The role of a component (Table 2.1). -/
inductive Role where
  | off
  | z
  | h1
  | h2
deriving DecidableEq, Repr

/-- Which components form the station energy (Table 2.1). -/
inductive Mode where
  | vertical
  | vector
deriving DecidableEq, Repr

/-- A station entry (R19, Table 2.1). -/
structure StationEntryCfg where
  enable : Bool
  role1 : Role
  role2 : Role
  role3 : Role
  mode : Mode
  set : Fin 8
  weight : Nat
deriving DecidableEq, Repr

/-- The defaults of Table 2.1. -/
def StationEntryCfg.default : StationEntryCfg :=
  { enable := false, role1 := .z, role2 := .h1, role3 := .h2, mode := .vertical, set := 0, weight := 1 }

/-- A detector set (R33, Table 3.1). -/
structure DetectorSet where
  k : Nat
  g : Nat
  s : Nat
  l : Nat
  rOn : Nat
  rOff : Nat
  d : Nat
  m : Nat
  h : Nat
  f : Nat
deriving DecidableEq, Repr

/-- The defaults of Table 3.1. -/
def DetectorSet.default : DetectorSet :=
  { k := 65208, g := 8, s := 4, l := 10, rOn := 64, rOff := 24, d := 4, m := 8000, h := 200, f := 16 }

/-- One entry of a neighbour list (R75). -/
structure Neighbour where
  station : Station
  moveout : Nat
deriving DecidableEq, Repr

/-- Which stations a capture covers (Table 6.2). -/
inductive CaptureSet where
  | neighbourhood
  | all
deriving DecidableEq, Repr

/-- The association parameters (R78, Table 6.2). -/
structure AssocParams where
  quorum : Nat
  slack : Nat
  extLength : Nat
  extLimit : Nat
  span : Nat
  captureEnable : Bool
  captureSet : CaptureSet
  pre : Nat
  post : Nat
deriving DecidableEq, Repr

/-- The defaults of Table 6.2. -/
def AssocParams.default : AssocParams :=
  { quorum := 6, slack := 40, extLength := 200, extLimit := 2, span := 8000, captureEnable := true,
    captureSet := .neighbourhood, pre := 400, post := 1600 }

/-- One complete copy of the configuration tables (section 10.3). -/
structure Bank where
  stations : Vector StationEntryCfg 64
  sets : Vector DetectorSet 8
  neighbours : Vector (List Neighbour) 64
  params : AssocParams
deriving DecidableEq, Repr

/-- The defaults of every table (R19, R33, R75, R78). -/
def Bank.default : Bank :=
  { stations := Vector.replicate 64 StationEntryCfg.default
    sets := Vector.replicate 8 DetectorSet.default
    neighbours := Vector.replicate 64 []
    params := AssocParams.default }

/-- The name of a bank: a block's bank in use names one of the two (R61, R80). -/
inductive BankName where
  | active
  | shadow
deriving DecidableEq, Repr

/-- When a scheduled switch is made: at an index, or as immediate (R157). -/
inductive SwitchPoint where
  | atIndex (s : Index)
  | immediate
deriving DecidableEq, Repr

/-! ## Line ports (chapter 1) -/

/-- The three line states of section 1.3. -/
inductive LineState where
  | down
  | sync
  | live
deriving DecidableEq, Repr

/-- A present place of a position map (R3): status byte and samples. -/
structure SlotData where
  status : Byte
  samples : Samples
deriving DecidableEq, Repr

/-- The position map of R3: 32 places, each present or absent. -/
abbrev PositionMap := Vector (Option SlotData) 32

/-- An entry of the input buffer (R12); `taken` counts its filled instants already taken (R59). -/
structure InputEntry where
  line : Line
  index : Index
  fill : Nat
  test : Bool
  map : PositionMap
  taken : Nat
deriving DecidableEq, Repr

/-- A field command's inner frame (R139). -/
structure InnerFrame where
  kind : Byte
  payload : List Byte
deriving DecidableEq, Repr

/-- The state of one line port (Table 1.6). -/
structure LinePort where
  state : LineState
  test : Bool
  expected : Option Index
  run : Nat
  backward : Nat
  /-- `none`: stopped; `some n`: running, started with a length of n ms (R7, R17). -/
  silence : Option Nat
  overrunFill : Nat
  buffer : List InputEntry
  /-- Bytes received and not yet judged: the frame in reception (R1). -/
  rx : List Byte
  fieldQueue : List InnerFrame
  /-- The bytes of the field command being sent, or idle (R16). -/
  tx : Option (List Byte)
deriving DecidableEq, Repr

/-- Table 1.6, after power-on. -/
def LinePort.reset : LinePort :=
  { state := .down, test := false, expected := none, run := 0, backward := 0, silence := none,
    overrunFill := 0, buffer := [], rx := [], fieldQueue := [], tx := none }

/-! ## Detector bank (chapters 2, 3, 4) -/

/-- The detector states (R46). -/
inductive DetState where
  | off
  | warmup
  | suspended
  | armed
  | pending
  | on
  | hold
deriving DecidableEq, Repr

/-- The high-pass state of one component (R36). -/
structure HighPass where
  xPrev : Int
  hPrev : Int
deriving DecidableEq, Repr

/-- The pending detection of R46. When there is none, the onset is none, the peak 0, the marks clear. -/
structure Detection where
  onset : Index
  peak : Nat
  clipped : Bool
  filled : Bool
deriving DecidableEq, Repr

/-- What the detector bank holds for one station (R23, R26, R29, R36, R46). -/
structure StationState where
  /-- `none` is UNKNOWN. -/
  confirmed : Option StatusCode
  candidate : Option StatusCode
  unread : List StatusCode
  held : Samples
  hp1 : HighPass
  hp2 : HighPass
  hp3 : HighPass
  sta : Nat
  lta : Nat
  warm : Nat
  det : DetState
  debounce : Nat
  onCount : Nat
  hold : Nat
  detection : Option Detection
deriving DecidableEq, Repr

/-- R28, R32, R36 and Table 4.6, after power-on. -/
def StationState.reset : StationState :=
  { confirmed := none, candidate := none, unread := [], held := Samples.zero,
    hp1 := ⟨0, 0⟩, hp2 := ⟨0, 0⟩, hp3 := ⟨0, 0⟩, sta := 0, lta := 0, warm := 0,
    det := .off, debounce := 0, onCount := 0, hold := 0, detection := none }

/-- What the detector bank holds for one line (R60, R61), and the line-leaves that the line port
has reported and the bank has not yet performed (R11, log 6). -/
structure BankLine where
  progress : Option Index
  live : Bool
  lastTest : Bool
  inUse : BankName
  switch : Option SwitchPoint
  leaves : Nat
deriving DecidableEq, Repr

/-- Table 4.6, after power-on. -/
def BankLine.reset : BankLine :=
  { progress := none, live := false, lastTest := false, inUse := .active, switch := none, leaves := 0 }

/-- The detector bank. -/
structure DetectorBank where
  stations : Vector StationState 64
  lines : PerLine BankLine
deriving DecidableEq, Repr

/-- Table 4.6, after power-on. -/
def DetectorBank.reset : DetectorBank :=
  { stations := Vector.replicate 64 StationState.reset, lines := ⟨BankLine.reset, BankLine.reset⟩ }

/-! ## Sample memory (section 0.3) -/

/-- A slot of a history ring (R29). The tag `none` is the value invalid. -/
structure RingSlot where
  tag : Option Index
  filled : Bool
  samples : Samples
deriving DecidableEq, Repr

/-- What every slot holds after power-on and RESET FULL (R32). -/
def RingSlot.reset : RingSlot := ⟨none, false, Samples.zero⟩

/-- A place of a capture block (R110). -/
structure BlockPlace where
  filled : Bool
  samples : Samples
deriving DecidableEq, Repr

/-- What a place that nothing has written reads as. DESIGN CHOICE (log 13): never reported. -/
def BlockPlace.reset : BlockPlace := ⟨false, Samples.zero⟩

/-- The on-package sample memory. `rings`: address station × 4096 + slot; `blocks`: address
block × 256 + place. Both lists have strictly rising addresses and list no entry equal to what an
unlisted address reads as. -/
structure SampleMemory where
  rings : List (Nat × RingSlot)
  blocks : List (Nat × BlockPlace)
deriving DecidableEq, Repr

/-! ## Pick queue (chapter 5) -/

/-- A pick record (R54, Table 4.3). -/
structure Pick where
  station : Station
  onset : Index
  peak : Nat
  set : Fin 8
  clipped : Bool
  filled : Bool
deriving DecidableEq, Repr

/-- A LINE MARK (Table 5.2). -/
structure LineMark where
  line : Line
  live : Bool
  progress : Option Index
  restart : Bool
deriving DecidableEq, Repr

/-- An entry of the pick queue (R67). -/
inductive QueueEntry where
  | pick (p : Pick)
  | mark (m : LineMark)
deriving DecidableEq, Repr

/-! ## Associator (chapters 5 and 6) -/

/-- The associator's view of a line (R72). -/
structure LineView where
  live : Bool
  progress : Option Index
deriving DecidableEq, Repr

/-- OPEN or DECLARED (R80); a FREE slot holds no candidate. -/
inductive CandidateState where
  | opened
  | declared
deriving DecidableEq, Repr

/-- A candidate (R81, Table 6.3). Its slot is its place in the table. -/
structure Candidate where
  state : CandidateState
  order : Nat
  anchor : Station
  t0 : Index
  earliest : Index
  deadline : Index
  extensions : Nat
  quorum : Nat
  weight : Nat
  picks : List Pick
deriving DecidableEq, Repr

/-- The associator (R72, R73, R80). -/
structure Associator where
  view : PerLine LineView
  watermark : Option Index
  slots : Vector (Option Candidate) 16
  openOrder : Nat
  inUse : BankName
  switch : Option SwitchPoint
deriving DecidableEq, Repr

/-- R74 and R99. -/
def Associator.reset : Associator :=
  { view := ⟨⟨false, none⟩, ⟨false, none⟩⟩, watermark := none, slots := Vector.replicate 16 none,
    openOrder := 0, inUse := .active, switch := none }

/-! ## Event channel and capture engine (chapter 7) -/

/-- A DECLARE message (Table 6.4). -/
structure DeclareMsg where
  slot : Fin 16
  anchor : Station
  t0 : Index
  earliest : Index
  picks : List Pick
  generation : BitVec 16
  captureEnable : Bool
  captureSet : CaptureSet
  pre : Nat
  post : Nat
  neighbours : List Station
deriving DecidableEq, Repr

/-- A CLOSE message (Table 6.6). -/
structure CloseMsg where
  slot : Fin 16
  picks : List Pick
  weight : Nat
  switchClosed : Bool
deriving DecidableEq, Repr

/-- A message of the event channel (R71). -/
inductive Message where
  | declare (m : DeclareMsg)
  | close (m : CloseMsg)
deriving DecidableEq, Repr

/-- A station entry of an event record (Table 7.2). A position of `chain` is `none` once its block
has been returned (R118, R128). `bulkRead` and `bulkFilled` are the bulk copy in flight: the slots
it has read, and the filled instants of the run it has built (R114). -/
structure StationEntry where
  station : Station
  boundary : Option Index
  chain : List (Option Nat)
  bulkFirst : Option Index
  bulkCount : Nat
  directCount : Nat
  filledCount : Nat
  startClamped : Bool
  lineLost : Bool
  testData : Bool
  bulkDone : Bool
  directDone : Bool
  bulkRead : Nat
  bulkFilled : Nat
deriving DecidableEq, Repr

/-- A capture section that is present (R109). -/
structure CaptureSection where
  start : Index
  stop : Index
  entries : List StationEntry
deriving DecidableEq, Repr

/-- The record states other than FREE (R102). -/
inductive RecordState where
  | active
  | filling
  | ready
  | reading
deriving DecidableEq, Repr

/-- An event record (Table 7.1). -/
structure Record where
  number : Nat
  state : RecordState
  order : Nat
  anchor : Station
  t0 : Index
  earliest : Index
  generation : BitVec 16
  picks : List Pick
  switchClosed : Bool
  captureAbsent : Bool
  captureDisabled : Bool
  capture : Option CaptureSection
deriving DecidableEq, Repr

/-- An entry of the candidate-to-record map (R104). -/
inductive MapEntry where
  | empty
  | record (place : Fin 32)
  | unrecorded
deriving DecidableEq, Repr

/-- The capture engine (section 7). A FREE record is `none`. -/
structure CaptureEngine where
  records : Vector (Option Record) 32
  map : Vector MapEntry 16
  nextNumber : Nat
  freeList : List Nat
deriving DecidableEq, Repr

/-- R122. -/
def CaptureEngine.reset : CaptureEngine :=
  { records := Vector.replicate 32 none, map := Vector.replicate 16 .empty, nextNumber := 1,
    freeList := List.range Config.poolBlocks }

/-! ## Readout unit (chapter 8) -/

/-- What a readout covers (R123). -/
inductive Selection where
  | all
  | one (station : Station)
deriving DecidableEq, Repr

/-- The readout unit (R123). `current` names the current entry by its station. -/
structure Readout where
  streaming : Bool
  record : Option (Fin 32)
  number : Nat
  selection : Selection
  current : Option Station
  nextIndex : Index
  remaining : Nat
  endStaged : Bool
  framesSent : Nat
  instantsSent : Nat
  overlap : Bool
  cancel : Bool
deriving DecidableEq, Repr

/-- R135; the fields without a meaning while IDLE hold the values of log 15. -/
def Readout.reset : Readout :=
  { streaming := false, record := none, number := 1, selection := .all, current := none,
    nextIndex := 0, remaining := 0, endStaged := false, framesSent := 0, instantsSent := 0,
    overlap := false, cancel := false }

/-! ## Trunk port (chapter 9) -/

/-- A command of the control receive buffer (R138). -/
structure Command where
  address : Byte
  code : Byte
  tag : Byte
  params : List Byte
deriving DecidableEq, Repr

/-- A PASS frame: the line, and the original frame from KIND to CHECK (R4). -/
structure PassFrame where
  line : Line
  original : List Byte
deriving DecidableEq, Repr

/-- The completion codes of Table 10.2. -/
inductive Completion where
  | done
  | doneClamped
  | unknownCommand
  | malformed
  | noSuchTable
  | switchPending
  | noSuchEvent
  | wrongState
deriving DecidableEq, Repr

/-- A REPLY frame (R148). -/
structure ReplyFrame where
  unit : Nat
  code : Byte
  tag : Byte
  completion : Completion
  results : List Byte
deriving DecidableEq, Repr

/-- The notice classes of Table 9.1. -/
inductive NoticeClass where
  | event
  | station
  | line
  | config
  | fault
deriving DecidableEq, Repr

/-- A NOTICE frame (R144). -/
structure NoticeFrame where
  unit : Nat
  cls : NoticeClass
  typ : Nat
  body : List Byte
deriving DecidableEq, Repr

/-- A CAPTURE DATA frame (R128). -/
structure CaptureFrame where
  number : Nat
  station : Station
  startClamped : Bool
  lineLost : Bool
  testData : Bool
  first : Index
  instants : List BlockPlace
deriving DecidableEq, Repr

/-- What the staged DATA place holds. The contents of a READOUT END are those standing when the
arbiter takes it (R130), so the staged frame carries none. -/
inductive DataFrame where
  | capture (f : CaptureFrame)
  | readoutEnd
deriving DecidableEq, Repr

/-- The trunk port (section 9). -/
structure Trunk where
  /-- Downlink bytes received and not yet judged (R136). -/
  rx : List Byte
  control : List Command
  pass : List PassFrame
  reply : List ReplyFrame
  notice : List NoticeFrame
  staged : Option DataFrame
  /-- The bytes of the uplink frame being sent, or free (R142). -/
  tx : Option (List Byte)
deriving DecidableEq, Repr

/-- Table 9.4, after power-on. -/
def Trunk.reset : Trunk :=
  { rx := [], control := [], pass := [], reply := [], notice := [], staged := none, tx := none }

/-! ## Unit controller (chapters 9 and 10) -/

/-- The nine unit status flags, in the order of Table 9.2. -/
inductive Flag where
  | pickOverflow
  | candidateFull
  | eventTableFull
  | poolShort
  | noticeLost
  | passDrop
  | controlOverrun
  | fieldDrop
  | lineOverrun
deriving DecidableEq, Repr

/-- The flags' values (R145). -/
structure Flags where
  pickOverflow : Bool
  candidateFull : Bool
  eventTableFull : Bool
  poolShort : Bool
  noticeLost : Bool
  passDrop : Bool
  controlOverrun : Bool
  fieldDrop : Bool
  lineOverrun : Bool
deriving DecidableEq, Repr

/-- All flags clear (R147). -/
def Flags.clear : Flags :=
  { pickOverflow := false, candidateFull := false, eventTableFull := false, poolShort := false,
    noticeLost := false, passDrop := false, controlOverrun := false, fieldDrop := false,
    lineOverrun := false }

/-- The notice mask (R143): on or off for each class. -/
structure NoticeMask where
  event : Bool
  station : Bool
  line : Bool
  config : Bool
  fault : Bool
deriving DecidableEq, Repr

/-- The retention setting (Table 10.3). -/
inductive Retention where
  | keep
  | recycle
deriving DecidableEq, Repr

/-- The unit settings (Table 10.3). -/
structure Settings where
  forwarding : PerLine Bool
  mask : NoticeMask
  retention : Retention
  silence : Nat
  gap : Nat
deriving DecidableEq, Repr

/-- The defaults of Table 10.3 (R152). -/
def Settings.default : Settings :=
  { forwarding := ⟨true, true⟩, mask := ⟨true, true, true, true, true⟩, retention := .keep,
    silence := 20, gap := 8 }

/-- The three switched marks (R153). -/
structure SwitchedMarks where
  lineA : Bool
  lineB : Bool
  associator : Bool
deriving DecidableEq, Repr

/-- A report "switched" on its way to the unit controller (R158): its block, and whether a
RESET ENGINE has cancelled its switch since. -/
structure SwitchReport where
  block : SwitchBlock
  cancelled : Bool
deriving DecidableEq, Repr

/-- The unit controller (sections 9.5, 10). -/
structure Controller where
  settings : Settings
  flags : Flags
  active : Bank
  shadow : Bank
  scheduled : Option SwitchPoint
  marks : SwitchedMarks
  generation : BitVec 16
  reports : List SwitchReport
  /-- R145: the FAULT requests of NOTICE_LOST on their way to the notice path, each with its detail,
  oldest first (log 10). -/
  lostFaults : List Byte
deriving DecidableEq, Repr

/-- R147, R152, R153, after power-on. -/
def Controller.reset : Controller :=
  { settings := Settings.default, flags := Flags.clear, active := Bank.default, shadow := Bank.default,
    scheduled := none, marks := ⟨false, false, false⟩, generation := 0, reports := [], lostFaults := [] }

/-! ## The whole part -/

/-- The input pins of Table 0.4 that the rules read: TRDY (true: asserted), RSTn (true: released)
and the UA straps as last latched. -/
structure Pins where
  trdy : Bool
  rstn : Bool
  ua : BitVec 5
deriving DecidableEq, Repr

/-- The state of the part, and the queue of the commands that wait for it. -/
structure State where
  pins : Pins
  unitAddress : Nat
  ports : PerLine LinePort
  bank : DetectorBank
  mem : SampleMemory
  pickQueue : List QueueEntry
  assoc : Associator
  channel : List Message
  capture : CaptureEngine
  readout : Readout
  trunk : Trunk
  ctrl : Controller
  /-- The model's own field: the commands that wait, first in first out. -/
  pending : List Instr
deriving DecidableEq, Repr

/-- The part right after power-on reset: every block at its power-on values. RSTn released, TRDY
withdrawn, the straps at 0 and so the unit address 0: DESIGN CHOICE (log 11). -/
def State.reset : State :=
  { pins := { trdy := false, rstn := true, ua := 0 }
    unitAddress := 0
    ports := ⟨LinePort.reset, LinePort.reset⟩
    bank := DetectorBank.reset
    mem := { rings := [], blocks := [] }
    pickQueue := []
    assoc := Associator.reset
    channel := []
    capture := CaptureEngine.reset
    readout := Readout.reset
    trunk := Trunk.reset
    ctrl := Controller.reset
    pending := [] }

/-- How a step can stop with a fault. -/
inductive Fault where
  /-- Raised by STAGE_DATA_FRAME when an instant of the current entry's copied run has no block in
  the entry's chain. R128 says that a copied run lies wholly in kept blocks, so no run from reset
  meets it (log 19). Safe. -/
  | captureHole
deriving DecidableEq, Repr

/-- How a step can refuse a command. -/
inductive Refusal where
  /-- Raised by exec's arm of a command that has no meaning yet. No arm raises it. Safe. -/
  | notModelled (mnemonic : String)
  /-- Raised by the meanings of commands with an operand that names no station, record place or
  strap value (log 20). Safe. -/
  | illFormed
deriving DecidableEq, Repr

/-- What a step answers. -/
abbrev Out := Host.Outcome State Fault Refusal

end Sys2Proof.Machine
end

