-- ==== Sys2Proof/Machine/Frames.lean ====
section
/-! DEFINITION. Frame formats (chapter 11): the envelope and its check, the hunt of the receivers
(R1, R136), and the payload layouts of Table 11.3. Multi-byte fields are big-endian (R165). -/

namespace Sys2Proof.Machine

/-! ## Fields -/

/-- A one-byte field. -/
def byte (n : Nat) : Byte := BitVec.ofNat 8 n

/-- A two-byte field, most significant byte first. -/
def be16 (n : Nat) : List Byte := [byte (n / 256), byte n]

/-- A three-byte sample field. -/
def be24 (x : Sample) : List Byte := [byte (x.toNat / 65536), byte (x.toNat / 256), byte x.toNat]

/-- A four-byte field. -/
def be32 (n : Nat) : List Byte := [byte (n / 16777216), byte (n / 65536), byte (n / 256), byte n]

/-- A mark in a one-byte field: 0 clear, 1 set. -/
def markByte (b : Bool) : Byte := if b then 1 else 0

/-- The byte of marks whose bit n is the n-th of the list; the other bits are 0 (R165). -/
def marksByte (marks : List Bool) : Byte := byte (marks.foldr (fun b n => b.toNat + 2 * n) 0)

/-- Byte n of a field list, 0 past its end. -/
def at8 (bs : List Byte) (n : Nat) : Nat := (bs.getD n 0).toNat

/-- The two-byte field at offset n. -/
def at16 (bs : List Byte) (n : Nat) : Nat := at8 bs n * 256 + at8 bs (n + 1)

/-- The three-byte sample at offset n. -/
def at24 (bs : List Byte) (n : Nat) : Sample :=
  BitVec.ofNat 24 ((at8 bs n * 256 + at8 bs (n + 1)) * 256 + at8 bs (n + 2))

/-- The sample index at offset n. -/
def at32 (bs : List Byte) (n : Nat) : Index := BitVec.ofNat 32 (at16 bs n * 65536 + at16 bs (n + 2))

/-- The three samples at offset n. -/
def atSamples (bs : List Byte) (n : Nat) : Samples := ⟨at24 bs n, at24 bs (n + 3), at24 bs (n + 6)⟩

/-- Three samples as nine bytes. -/
def samplesBytes (x : Samples) : List Byte := be24 x.c1 ++ be24 x.c2 ++ be24 x.c3

/-! ## The check (R164) -/

/-- One of the eight left shifts that follow each byte. -/
def crcShift (r : BitVec 16) : BitVec 16 := if r.msb then (r <<< 1) ^^^ 0x1021#16 else r <<< 1

/-- The register after one byte. -/
def crcByte (r : BitVec 16) (b : Byte) : BitVec 16 :=
  crcShift (crcShift (crcShift (crcShift (crcShift (crcShift (crcShift (crcShift
    (r ^^^ (b.setWidth 16 <<< 8)))))))))

/-- The CRC of a list of bytes, generator 0x1021, register starting at 0xFFFF, no final inversion. -/
def crc (bs : List Byte) : BitVec 16 := bs.foldl crcByte 0xFFFF#16

/-! ## The envelope (Table 11.1) -/

/-- KIND and LENGTH. -/
def frameHead (kind : Byte) (payload : List Byte) : List Byte := kind :: be16 payload.length

/-- A frame from KIND to CHECK. -/
def frameBody (kind : Byte) (payload : List Byte) : List Byte :=
  frameHead kind payload ++ payload ++ be16 (crc (frameHead kind payload ++ payload)).toNat

/-- The whole frame as a transmitter sends it (R16, R142, R164). -/
def envelope (kind : Byte) (payload : List Byte) : List Byte := 0xC3 :: 0x3C :: frameBody kind payload

/-- A frame that a receiver passes on. -/
structure RxFrame where
  kind : Byte
  payload : List Byte
deriving DecidableEq, Repr

/-- What the bytes after a start pattern are (R1). -/
inductive Envelope where
  /-- More bytes are needed. -/
  | incomplete
  /-- LENGTH above 2047, or CHECK not equal to the CRC. -/
  | bad
  /-- Well formed; the bytes that follow CHECK. -/
  | good (f : RxFrame) (rest : List Byte)
deriving DecidableEq, Repr

/-- R1, R136: the bytes after a start pattern are judged. -/
def judgeEnvelope : List Byte → Envelope
  | kind :: l1 :: l0 :: body =>
    let len := l1.toNat * 256 + l0.toNat
    if Config.maxLength < len then .bad
    else if body.length < len + 2 then .incomplete
    else if be16 (crc (kind :: l1 :: l0 :: body.take len)).toNat = (body.drop len).take 2 then
      .good ⟨kind, body.take len⟩ (body.drop (len + 2))
    else .bad
  | _ => .incomplete

/-- R1, R136: the receiver hunts for the start pattern. A malformed or damaged frame is discarded
and the hunt resumes at the byte that follows its start pattern; a discarded frame leaves no trace,
so the hunt goes on in the same step, up to the first well-formed frame. Answers that frame and
the bytes that stay received and not yet judged. -/
def hunt : List Byte → Option RxFrame × List Byte
  | [] => (none, [])
  | b :: bs =>
    if b = 0xC3#8 then
      match bs.head? with
      | none => (none, [b])
      | some c =>
        if c = 0x3C#8 then
          match judgeEnvelope bs.tail with
          | .incomplete => (none, b :: bs)
          | .bad => hunt bs
          | .good f rest => (some f, rest)
        else hunt bs
    else hunt bs

/-! ## SAMPLE frames (R3) -/

/-- An accepted SAMPLE frame. -/
structure SampleFrame where
  index : Index
  marker : Byte
  map : PositionMap
deriving DecidableEq, Repr

/-- The map after one slot has been read: the first slot of a position is the one kept, and a
position of 32 or greater is ignored (R3). -/
def placeSlot (map : PositionMap) (bs : List Byte) (offset : Nat) : PositionMap :=
  if h : at8 bs offset < 32 then
    match map[at8 bs offset] with
    | some _ => map
    | none => map.set (at8 bs offset) (some ⟨bs.getD (offset + 1) 0, atSamples bs (offset + 2)⟩)
  else map

/-- R3: the position map of n slots. -/
def positionMap (payload : List Byte) (n : Nat) : PositionMap :=
  (List.range n).foldl (fun map k => placeSlot map payload (6 + 11 * k)) (Vector.replicate 32 none)

/-- R3: a SAMPLE payload, or none when the frame is truncated. -/
def parseSample (payload : List Byte) : Option SampleFrame :=
  if at8 payload 5 = 0 ∨ 32 < at8 payload 5 ∨ payload.length ≠ 6 + 11 * at8 payload 5 then none
  else some ⟨at32 payload 0, payload.getD 4 0, positionMap payload (at8 payload 5)⟩

/-! ## Code values (R165) -/

/-- Line numbers of PASS frames (R4): 1 and 2. -/
def linePassCode : Line → Nat
  | .a => 1
  | .b => 2

/-- Line numbers of notices and details: 0 and 1. -/
def lineCode : Line → Nat
  | .a => 0
  | .b => 1

/-- Table 11.4. -/
def Completion.code : Completion → Nat
  | .done => 0x00
  | .doneClamped => 0x01
  | .unknownCommand => 0x10
  | .malformed => 0x11
  | .noSuchTable => 0x12
  | .switchPending => 0x13
  | .noSuchEvent => 0x14
  | .wrongState => 0x15

/-- Class values of Table 11.3. -/
def NoticeClass.code : NoticeClass → Nat
  | .event => 1
  | .station => 2
  | .line => 3
  | .config => 4
  | .fault => 5

/-- Status codes: 0 to 15, UNKNOWN is 0x80. -/
def statusByte : Option StatusCode → Byte
  | some c => byte c.val
  | none => 0x80

/-- Line states: 0 DOWN, 1 SYNC, 2 LIVE. -/
def LineState.code : LineState → Nat
  | .down => 0
  | .sync => 1
  | .live => 2

/-- Record states: 1 ACTIVE, 2 FILLING, 3 READY, 4 READING. -/
def RecordState.code : RecordState → Nat
  | .active => 1
  | .filling => 2
  | .ready => 3
  | .reading => 4

/-! ## Uplink payloads (Table 11.3) -/

/-- A PASS payload. -/
def PassFrame.payload (f : PassFrame) : List Byte := byte (linePassCode f.line) :: f.original

/-- A REPLY payload. -/
def ReplyFrame.payload (f : ReplyFrame) : List Byte :=
  byte f.unit :: f.code :: f.tag :: byte f.completion.code :: f.results

/-- A NOTICE payload. -/
def NoticeFrame.payload (f : NoticeFrame) : List Byte :=
  byte f.unit :: byte f.cls.code :: byte f.typ :: f.body

/-- One instant of a CAPTURE DATA payload. -/
def placeBytes (x : BlockPlace) : List Byte := markByte x.filled :: samplesBytes x.samples

/-- A CAPTURE DATA payload. -/
def CaptureFrame.payload (f : CaptureFrame) : List Byte :=
  be16 f.number ++ [byte f.station.val, marksByte [f.startClamped, f.lineLost, f.testData]] ++
    be32 f.first.toNat ++ [byte f.instants.length] ++ (f.instants.map placeBytes).flatten

/-- A READOUT END payload: the counts and marks standing when the arbiter takes it (R130). -/
def Readout.endPayload (r : Readout) : List Byte :=
  be16 r.number ++ be16 r.framesSent ++ be32 r.instantsSent ++ [marksByte [r.overlap, r.cancel]]

end Sys2Proof.Machine
end

