-- ==== Sys2Proof/Machine/Notices.lean ====
section
/-! DEFINITION. Notice requests and the bodies of their frames (Table 9.1, Table 11.6). -/

namespace Sys2Proof.Machine

/-- The causes of LINE notices (R14), numbered in Table 11.6. -/
inductive LineCause where
  | firstFrame
  | runComplete
  | gapExceeded
  | backwardRun
  | silence
  | testSet
  | testCleared
deriving DecidableEq, Repr

/-- The LINE type of a cause. -/
def LineCause.code : LineCause → Nat
  | .firstFrame => 1
  | .runComplete => 2
  | .gapExceeded => 3
  | .backwardRun => 4
  | .silence => 5
  | .testSet => 6
  | .testCleared => 7

/-- Capture status (R113). -/
inductive CaptureStatus where
  | captured
  | absent
  | disabled
  | noRecord
deriving DecidableEq, Repr

/-- Capture status values of R165. -/
def CaptureStatus.code : CaptureStatus → Nat
  | .captured => 1
  | .absent => 2
  | .disabled => 3
  | .noRecord => 4

/-- The flags in the order of Table 9.2. -/
def Flag.code : Flag → Nat
  | .pickOverflow => 0
  | .candidateFull => 1
  | .eventTableFull => 2
  | .poolShort => 3
  | .noticeLost => 4
  | .passDrop => 5
  | .controlOverrun => 6
  | .fieldDrop => 7
  | .lineOverrun => 8

/-- A notice request with the fields of the rule that makes it. -/
inductive Notice where
  /-- R121, at each DECLARE. -/
  | eventDeclared (number : Nat) (noRecord : Bool) (anchor : Station) (t0 earliest : Index)
      (pickCount : Nat) (generation : BitVec 16) (status : CaptureStatus) (entries : Nat)
      (start stop : Index)
  /-- R121, at each CLOSE. -/
  | eventClosed (number : Nat) (noRecord switchClosed : Bool) (anchor : Station) (t0 earliest : Index)
      (pickCount weight : Nat) (after : Option RecordState)
  /-- R121, when a record becomes READY. -/
  | eventReady (number : Nat) (status : CaptureStatus) (entries clamped lost test : Nat)
  /-- R121, when retention frees a record. -/
  | eventRecycled (number : Nat)
  /-- R24. -/
  | statusChange (station : Station) (code : StatusCode) (previous : Option StatusCode) (index : Index)
  /-- R14. -/
  | lineChange (cause : LineCause) (line : Line) (after : LineState) (test : Bool) (index : Option Index)
  /-- R160. -/
  | switchComplete (generation : BitVec 16)
  /-- R145. -/
  | flagRaised (flag : Flag) (detail : Byte)
deriving DecidableEq, Repr

/-- The class of a request (Table 9.1). -/
def Notice.cls : Notice → NoticeClass
  | .eventDeclared .. => .event
  | .eventClosed .. => .event
  | .eventReady .. => .event
  | .eventRecycled .. => .event
  | .statusChange .. => .station
  | .lineChange .. => .line
  | .switchComplete .. => .config
  | .flagRaised .. => .fault

/-- The type of a request within its class (Table 11.6). -/
def Notice.typ : Notice → Nat
  | .eventDeclared .. => 1
  | .eventClosed .. => 2
  | .eventReady .. => 3
  | .eventRecycled .. => 4
  | .statusChange .. => 1
  | .lineChange cause .. => cause.code
  | .switchComplete .. => 1
  | .flagRaised .. => 1

/-- The body of a request's frame (Table 11.6). -/
def Notice.body : Notice → List Byte
  | .eventDeclared number noRecord anchor t0 earliest pickCount generation status entries start stop =>
    be16 number ++ [marksByte [noRecord, false], byte anchor.val] ++ be32 t0.toNat ++ be32 earliest.toNat ++
      [byte pickCount] ++ be16 generation.toNat ++ [byte status.code, byte entries] ++
      be32 start.toNat ++ be32 stop.toNat
  | .eventClosed number noRecord switchClosed anchor t0 earliest pickCount weight after =>
    be16 number ++ [marksByte [noRecord, switchClosed], byte anchor.val] ++ be32 t0.toNat ++
      be32 earliest.toNat ++ [byte pickCount, byte weight, byte ((after.map RecordState.code).getD 0)]
  | .eventReady number status entries clamped lost test =>
    be16 number ++ [byte status.code, byte entries, byte clamped, byte lost, byte test]
  | .eventRecycled number => be16 number
  | .statusChange station code previous index =>
    [byte station.val, statusByte (some code), statusByte previous] ++ be32 index.toNat
  | .lineChange _ line after test index =>
    [byte (lineCode line), byte after.code, markByte test, markByte index.isSome] ++ be32 (index.getD 0).toNat
  | .switchComplete generation => be16 generation.toNat
  | .flagRaised flag detail => [byte flag.code, detail]

/-- R144: the NOTICE frame formed from a request. -/
def Notice.frame (n : Notice) (unit : Nat) : NoticeFrame := ⟨unit, n.cls, n.typ, n.body⟩

end Sys2Proof.Machine
end

