-- ==== Sys2Proof/Machine/Flags.lean ====
section
/-! DEFINITION. The unit status flags (R145) and the notice path (R143): what a report and a
request do. The FAULT request of NOTICE_LOST that follows from a dropped request is on its way until
it arrives, so that the arbiter can take a frame in between; it arrives at the latest before the unit
controller's next request (log 10). -/

namespace Sys2Proof.Machine

/-- The value of a flag. -/
def Flags.get (f : Flags) : Flag → Bool
  | .pickOverflow => f.pickOverflow
  | .candidateFull => f.candidateFull
  | .eventTableFull => f.eventTableFull
  | .poolShort => f.poolShort
  | .noticeLost => f.noticeLost
  | .passDrop => f.passDrop
  | .controlOverrun => f.controlOverrun
  | .fieldDrop => f.fieldDrop
  | .lineOverrun => f.lineOverrun

/-- The flags with one of them set. -/
def Flags.raise (f : Flags) : Flag → Flags
  | .pickOverflow => { f with pickOverflow := true }
  | .candidateFull => { f with candidateFull := true }
  | .eventTableFull => { f with eventTableFull := true }
  | .poolShort => { f with poolShort := true }
  | .noticeLost => { f with noticeLost := true }
  | .passDrop => { f with passDrop := true }
  | .controlOverrun => { f with controlOverrun := true }
  | .fieldDrop => { f with fieldDrop := true }
  | .lineOverrun => { f with lineOverrun := true }

/-- The flags in the order of Table 9.2, as READ STATUS reports them (R146, R166). -/
def Flags.bits (f : Flags) : List Bool :=
  [f.pickOverflow, f.candidateFull, f.eventTableFull, f.poolShort, f.noticeLost, f.passDrop,
    f.controlOverrun, f.fieldDrop, f.lineOverrun]

/-- The mask's value for a class. -/
def NoticeMask.get (m : NoticeMask) : NoticeClass → Bool
  | .event => m.event
  | .station => m.station
  | .line => m.line
  | .config => m.config
  | .fault => m.fault

/-- A flag is set. -/
def State.setFlag (s : State) (f : Flag) : State :=
  { s with ctrl := { s.ctrl with flags := s.ctrl.flags.raise f } }

/-- Whether a request is dropped: its class is on and the NOTICE queue is full (R143). -/
def State.noticeDropped (s : State) (n : Notice) : Bool :=
  s.ctrl.settings.mask.get n.cls && decide (Config.noticePlaces ≤ s.trunk.notice.length)

/-- The queue after a request: the frame is appended when the class is on and there is room (R143). -/
def State.offerNotice (s : State) (n : Notice) : State :=
  if s.ctrl.settings.mask.get n.cls && decide (s.trunk.notice.length < Config.noticePlaces) then
    { s with trunk := { s.trunk with notice := s.trunk.notice ++ [n.frame s.unitAddress] } }
  else s

/-- R143, R145: the notice path judges a FAULT request. A dropped one reports NOTICE_LOST, and this
report requests no further notice. -/
def State.judgeFault (s : State) (n : Notice) : State :=
  if s.noticeDropped n then s.setFlag .noticeLost else s.offerNotice n

/-- R145: the oldest FAULT request of NOTICE_LOST arrives. It is queued if a frame has been taken
since its drop, and otherwise dropped, which ends the chain (log 10). -/
def State.lostFaultArrives (s : State) : State :=
  match s.ctrl.lostFaults with
  | [] => s
  | detail :: rest =>
    { s with ctrl := { s.ctrl with lostFaults := rest } }.judgeFault (.flagRaised .noticeLost detail)

/-- R143: requests of one block reach the notice path in the order in which it makes them, so before a later
request of the unit controller is judged, its FAULT requests on their way arrive, oldest first. -/
def State.lostFaultsArrive (s : State) : State :=
  s.ctrl.lostFaults.foldl (fun t detail => t.judgeFault (.flagRaised .noticeLost detail))
    { s with ctrl := { s.ctrl with lostFaults := [] } }

/-- R143, R145: a report of a flag's cause. A rise requests a FAULT notice, behind the requests of the unit
controller that are on their way. -/
def State.report (s : State) (f : Flag) (detail : Byte) : State :=
  if s.ctrl.flags.get f then s
  else (s.setFlag f).lostFaultsArrive.judgeFault (.flagRaised f detail)

/-- R143, R145: a dropped request of a class other than FAULT reports NOTICE_LOST. A rise sends the
FAULT request on its way, with the class of the dropped request. -/
def State.noticeLost (s : State) (cls : NoticeClass) : State :=
  if s.ctrl.flags.get .noticeLost then s
  else
    { s with ctrl := { s.ctrl with
      flags := s.ctrl.flags.raise .noticeLost
      lostFaults := s.ctrl.lostFaults ++ [byte cls.code] } }

/-- R143: a notice request of a class other than FAULT. -/
def State.request (s : State) (n : Notice) : State :=
  if s.noticeDropped n then s.noticeLost n.cls else s.offerNotice n

/-- Several requests in turn. -/
def State.requestAll (s : State) (ns : List Notice) : State := ns.foldl State.request s

end Sys2Proof.Machine
end

