-- ==== Sys2Proof/Machine/Memory.lean ====
section
/-! DEFINITION. The sample memory: cells in one canonical form (addresses strictly rising, no cell
equal to what an unlisted address reads as), the history rings (R29) and the capture blocks (R110). -/

namespace Sys2Proof.Machine

/-- What an address reads as; `dflt` is what an unlisted address reads as. -/
def readCell {α : Type} (dflt : α) : List (Nat × α) → Nat → α
  | [], _ => dflt
  | c :: rest, k => if k = c.1 then c.2 else readCell dflt rest k

/-- The cells after a write, in canonical form. -/
def writeCell {α : Type} [DecidableEq α] (dflt : α) : List (Nat × α) → Nat → α → List (Nat × α)
  | [], k, v => if v = dflt then [] else [(k, v)]
  | c :: rest, k, v =>
    if k < c.1 then (if v = dflt then c :: rest else (k, v) :: c :: rest)
    else if k = c.1 then (if v = dflt then rest else (k, v) :: rest)
    else c :: writeCell dflt rest k v

/-- The addresses of a list of cells rise strictly from above `lo`, and no cell is equal to `dflt`. -/
def cellsWfFrom {α : Type} [DecidableEq α] (dflt : α) : Nat → List (Nat × α) → Bool
  | _, [] => true
  | lo, c :: rest => decide (lo ≤ c.1) && decide (c.2 ≠ dflt) && cellsWfFrom dflt (c.1 + 1) rest

/-- The canonical form of a list of cells. -/
def cellsWf {α : Type} [DecidableEq α] (dflt : α) (m : List (Nat × α)) : Bool := cellsWfFrom dflt 0 m

/-- The canonical form of the sample memory. -/
def Memory.wf (m : SampleMemory) : Bool :=
  cellsWf RingSlot.reset m.rings && cellsWf BlockPlace.reset m.blocks

/-- The address of the ring slot that keeps instant i of a station: slot i mod 4096 (R29). -/
def ringAddress (st : Station) (i : Index) : Nat :=
  st.val * Config.ringSlots + i.toNat % Config.ringSlots

/-- The ring slot that keeps instant i of a station, read whole (R29, R31). -/
def SampleMemory.ringSlot (m : SampleMemory) (st : Station) (i : Index) : RingSlot :=
  readCell RingSlot.reset m.rings (ringAddress st i)

/-- R30: the ring slot of instant i of a station is written. -/
def SampleMemory.writeRing (m : SampleMemory) (st : Station) (i : Index) (x : RingSlot) : SampleMemory :=
  { m with rings := writeCell RingSlot.reset m.rings (ringAddress st i) x }

/-- The address of a place of a block (R110). -/
def blockAddress (block place : Nat) : Nat := block * Config.blockPlaces + place

/-- A place of a block. -/
def SampleMemory.blockPlace (m : SampleMemory) (block place : Nat) : BlockPlace :=
  readCell BlockPlace.reset m.blocks (blockAddress block place)

/-- A place of a block is written. -/
def SampleMemory.writeBlock (m : SampleMemory) (block place : Nat) (x : BlockPlace) : SampleMemory :=
  { m with blocks := writeCell BlockPlace.reset m.blocks (blockAddress block place) x }

/-- The block that a chain has at the position of a window offset (R110). -/
def chainBlock (chain : List (Option Nat)) (offset : Nat) : Option Nat :=
  (chain[offset / Config.blockPlaces]?).join

/-- R110: the instant at a window offset is written at its place of the chain. A chain that has no
block there (which no entry that is written has) takes nothing. -/
def SampleMemory.writeChain (m : SampleMemory) (chain : List (Option Nat)) (offset : Nat) (x : BlockPlace) :
    SampleMemory :=
  match chainBlock chain offset with
  | some b => m.writeBlock b (offset % Config.blockPlaces) x
  | none => m

end Sys2Proof.Machine
end

