-- ==== Sys2Proof/Machine/Ops.lean ====
section
/-! DEFINITION. Named operations shared by the meanings: access to the parts of the state, the
condition that RSTn is released, capture entries and their completion, freeing of records,
replies, and the line switch with its continuity comparison. -/

namespace Sys2Proof.Machine

/-! ## Parts of the state -/

/-- A line's port. -/
def State.port (s : State) (l : Line) : LinePort := s.ports.get l

/-- A line's port is replaced. -/
def State.setPort (s : State) (l : Line) (p : LinePort) : State := { s with ports := s.ports.set l p }

/-- What the detector bank holds for a station. -/
def State.station (s : State) (i : Station) : StationState := s.bank.stations[i]

/-- What the detector bank holds for a line. -/
def State.bankLine (s : State) (l : Line) : BankLine := s.bank.lines.get l

/-- What the detector bank holds for a line is replaced. -/
def State.setBankLine (s : State) (l : Line) (b : BankLine) : State :=
  { s with bank := { s.bank with lines := s.bank.lines.set l b } }

/-- Every station's state is replaced by a function of its number and its state. -/
def State.mapStations (s : State) (f : Station → StationState → StationState) : State :=
  { s with bank := { s.bank with stations := tabulate fun i => f i s.bank.stations[i] } }

/-- The bank that a name names. -/
def State.bankOf (s : State) : BankName → Bank
  | .active => s.ctrl.active
  | .shadow => s.ctrl.shadow

/-- The station entry of a station in a bank (R19). -/
def Bank.station (b : Bank) (i : Station) : StationEntryCfg := b.stations[i]

/-- The detector set that a station's entry names (R33). -/
def Bank.detectorSet (b : Bank) (i : Station) : DetectorSet := b.sets[(b.station i).set]

/-- A station's neighbour list (R75). -/
def Bank.neighbourList (b : Bank) (i : Station) : List Neighbour := b.neighbours[i]

/-- R162: while RSTn is asserted no block takes any event; the step does not happen. -/
def State.whileReleased (s t : State) : Out := .next (if s.pins.rstn then t else s)

/-! ## Detector states (R46, R47, R56, R62) -/

/-- R56: a station is available while its detector is in ARMED, PENDING, ON or HOLD. -/
def DetState.available : DetState → Bool
  | .armed => true
  | .pending => true
  | .on => true
  | .hold => true
  | .off => false
  | .warmup => false
  | .suspended => false

/-- R56: the availability that the detector bank publishes. -/
def State.available (s : State) (i : Station) : Bool := (s.station i).det.available

/-- R22, Table 2.3: whether a confirmed code allows detection (OK or CLIPPED). -/
def detectionAllowed : Option StatusCode → Bool
  | some c => decide (c.val ≤ 1)
  | none => false

/-- R47: the conditions of activity. -/
def conditionsHold (lineLive test : Bool) (confirmed : Option StatusCode) : Bool :=
  lineLive && !test && detectionAllowed confirmed

/-- Entry into WARMUP: the warm-up count becomes 0 and there is no pending detection (R41, R48). -/
def StationState.enterWarmup (x : StationState) : StationState :=
  { x with det := .warmup, warm := 0, detection := none }

/-- Entry into SUSPENDED: a pending detection is discarded (R47). -/
def StationState.enterSuspended (x : StationState) : StationState :=
  { x with det := .suspended, detection := none }

/-- Entry into OFF: a pending detection is discarded (R62). -/
def StationState.enterOff (x : StationState) : StationState := { x with det := .off, detection := none }

/-- R62: the continuity comparison of one station; `ok` says whether the conditions of activity hold. -/
def continuity (old new : Bank) (i : Station) (ok : Bool) (x : StationState) : StationState :=
  if !(new.station i).enable then x.enterOff
  else if old.station i ≠ new.station i ∨ old.detectorSet i ≠ new.detectorSet i then
    (if ok then x.enterWarmup else x.enterSuspended)
  else x

/-! ## Switch reports (R61, R97, R158) -/

/-- The block that reports a line's switch. -/
def lineBlock : Line → SwitchBlock
  | .a => .lineA
  | .b => .lineB

/-- A block reports "switched"; the report is on its way to the unit controller. -/
def State.sendReport (s : State) (b : SwitchBlock) : State :=
  { s with ctrl := { s.ctrl with reports := s.ctrl.reports ++ [⟨b, false⟩] } }

/-- R61: a line takes the shadow bank into use, and the report is sent. -/
def State.takeShadow (s : State) (l : Line) : State :=
  (s.setBankLine l { s.bankLine l with inUse := .shadow, switch := none }).sendReport (lineBlock l)

/-- R61, R62: a line that is not LIVE switches, at the scheduling or at a line-leave: the conditions of
activity fail for each of its stations. -/
def State.switchIdleLine (s : State) (l : Line) : State :=
  (s.mapStations fun i x =>
    if lineOf i = l then
      continuity (s.bankOf (s.bankLine l).inUse) (s.bankOf .shadow) i false x
    else x).takeShadow l

/-! ## Capture sections and station entries (R109 to R118) -/

/-- R109: n, the number of indices of the window. -/
def CaptureSection.size (c : CaptureSection) : Nat := (c.stop - c.start).toNat + 1

/-- R109: the offset of an index in the window. -/
def CaptureSection.offset (c : CaptureSection) (i : Index) : Nat := (i - c.start).toNat

/-- R109: an index lies in the window when its offset is less than n. -/
def CaptureSection.contains (c : CaptureSection) (i : Index) : Bool := decide (c.offset i < c.size)

/-- R112: the number of indices of an entry's bulk range, which starts at the window's start. It is 0
whenever the boundary is not at or after start, also where it is at or after end (log 28). -/
def CaptureSection.bulkLength (c : CaptureSection) (boundary : Option Index) : Nat :=
  match boundary with
  | none => 0
  | some b => if atOrAfter b c.start then c.offset (earliestOf b [c.stop]) + 1 else 0

/-- R112: whether an entry's direct range holds an index. -/
def CaptureSection.directContains (c : CaptureSection) (e : StationEntry) (i : Index) : Bool :=
  c.contains i && decide (c.bulkLength e.boundary ≤ c.offset i)

/-- R118: a station entry is complete when bulk done and direct done are both set. -/
def StationEntry.complete (e : StationEntry) : Bool := e.bulkDone && e.directDone

/-- R101: the copied count. -/
def StationEntry.copied (e : StationEntry) : Nat := e.bulkCount + e.directCount

/-- R101: the first copied index. -/
def CaptureSection.firstCopied (c : CaptureSection) (e : StationEntry) : Option Index :=
  if 0 < e.bulkCount then e.bulkFirst
  else if 0 < e.directCount then some (indexPlus c.start (c.bulkLength e.boundary))
  else none

/-- R118: whether a block at a chain position holds a copied instant. -/
def CaptureSection.keepsPosition (c : CaptureSection) (e : StationEntry) (p : Nat) : Bool :=
  match c.firstCopied e with
  | none => false
  | some first =>
    decide (0 < e.copied) && decide (c.offset first / Config.blockPlaces ≤ p) &&
      decide (p ≤ (c.offset first + e.copied - 1) / Config.blockPlaces)

/-- The positions of a chain that stay, `p` being the first one's number (R118). -/
def keptChain (keep : Nat → Bool) : Nat → List (Option Nat) → List (Option Nat)
  | _, [] => []
  | p, b :: rest => (if keep p then b else none) :: keptChain keep (p + 1) rest

/-- The blocks of the positions that do not stay, in chain order (R118). -/
def returnedBlocks (keep : Nat → Bool) : Nat → List (Option Nat) → List Nat
  | _, [] => []
  | p, b :: rest => (if keep p then [] else b.toList) ++ returnedBlocks keep (p + 1) rest

/-- The blocks that a chain holds, in chain order. -/
def chainBlocks (chain : List (Option Nat)) : List Nat := chain.filterMap id

/-- What an event at one station entry makes of a list of entries: the entries, the blocks returned
when the event completed the entry (R118), and whether it did. -/
structure EntryChange where
  entries : List StationEntry
  returned : List Nat
  completed : Bool

/-- An event `f` at the station's entry of a capture section; if it completes the entry, the blocks
without a copied instant leave its chain (R118). -/
def CaptureSection.changeEntry (c : CaptureSection) (st : Station) (f : StationEntry → StationEntry) :
    List StationEntry → EntryChange
  | [] => ⟨[], [], false⟩
  | e :: rest =>
    if e.station = st then
      let e' := f e
      if e'.complete && !e.complete then
        ⟨{ e' with chain := keptChain (c.keepsPosition e') 0 e'.chain } :: rest,
          returnedBlocks (c.keepsPosition e') 0 e'.chain, true⟩
      else ⟨e' :: rest, [], false⟩
    else
      let r := c.changeEntry st f rest
      ⟨e :: r.entries, r.returned, r.completed⟩

/-- The station entries of a record, none when its capture section is absent. -/
def Record.entries (r : Record) : List StationEntry :=
  match r.capture with
  | some c => c.entries
  | none => []

/-- R113: the capture status of a record. -/
def Record.status (r : Record) : CaptureStatus :=
  match r.capture with
  | some _ => .captured
  | none => if r.captureDisabled then .disabled else .absent

/-- R119, R120: no station entry is incomplete. -/
def Record.allComplete (r : Record) : Bool := r.entries.all StationEntry.complete

/-- R121: the EVENT READY request of a record. -/
def Record.readyNotice (r : Record) : Notice :=
  .eventReady r.number r.status r.entries.length (r.entries.countP (·.startClamped))
    (r.entries.countP (·.lineLost)) (r.entries.countP (·.testData))

/-- The record at a place of the event table. -/
def State.record (s : State) (p : Fin 32) : Option Record := s.capture.records[p]

/-- The record at a place of the event table is replaced. -/
def State.setRecord (s : State) (p : Fin 32) (r : Option Record) : State :=
  { s with capture := { s.capture with records := s.capture.records.set p r } }

/-- Blocks go to the tail of the free list (R110). -/
def State.returnBlocks (s : State) (bs : List Nat) : State :=
  { s with capture := { s.capture with freeList := s.capture.freeList ++ bs } }

/-- An event at a station entry of a record: the entry changes, a completed entry returns its unused
blocks (R118), and a FILLING record whose last entry completes becomes READY and requests
EVENT READY (R120). -/
def State.entryEvent (s : State) (p : Fin 32) (st : Station) (f : StationEntry → StationEntry) : State :=
  match s.record p with
  | none => s
  | some r =>
    match r.capture with
    | none => s
    | some c =>
      let ch := c.changeEntry st f c.entries
      let r' : Record := { r with capture := some { c with entries := ch.entries } }
      if ch.completed && decide (r.state = .filling) && r'.allComplete then
        ((s.setRecord p (some { r' with state := .ready })).returnBlocks ch.returned).request r'.readyNotice
      else (s.setRecord p (some r')).returnBlocks ch.returned

/-- The station's entry of a record. -/
def Record.entry (r : Record) (st : Station) : Option StationEntry :=
  r.entries.find? (fun e => decide (e.station = st))

/-- All places of the event table, ascending. -/
def allPlaces : List (Fin 32) := List.ofFn (fun i : Fin 32 => i)

/-- R107: a record is freed. Its bulk copies and direct ranges end with its entries, its blocks
return entry by entry in chain order, and the declaration orders above it fall by 1 (R103). -/
def State.freeRecord (s : State) (p : Fin 32) : State :=
  match s.record p with
  | none => s
  | some r =>
    { s with capture := { s.capture with
        records := tabulate fun q =>
          if q = p then none
          else (s.capture.records[q]).map fun x =>
            if r.order < x.order then { x with order := x.order - 1 } else x
        freeList := s.capture.freeList ++ (r.entries.map fun e => chainBlocks e.chain).flatten } }

/-- The non-FREE record that holds an event number. -/
def State.findRecord (s : State) (number : Nat) : Option (Fin 32) :=
  allPlaces.find? fun p =>
    match s.record p with
    | some r => decide (r.number = number)
    | none => false

/-! ## Replies (R148, R150) -/

/-- Whether a command arrived with the group address (R137). -/
def Command.isGroup (c : Command) : Bool := decide (c.address.toNat = Config.groupAddress)

/-- R148, R150: the reply of a command is appended to the REPLY queue; a group command gets none. -/
def State.answer (s : State) (c : Command) (completion : Completion) (results : List Byte) : State :=
  if c.isGroup then s
  else { s with trunk := { s.trunk with
      reply := s.trunk.reply ++ [⟨s.unitAddress, c.code, c.tag, completion, results⟩] } }

/-- The state without the oldest command of the control receive buffer (R138). -/
def State.dropCommand (s : State) : State :=
  { s with trunk := { s.trunk with control := s.trunk.control.tail } }

/-- R148: the oldest command of the control receive buffer can be taken, and this row judges it. -/
def State.commandFor (s : State) (mine : Command → Bool) : Option Command :=
  if s.pins.rstn && decide (s.trunk.reply.length < Config.replyPlaces) then
    match s.trunk.control.head? with
    | some c => if mine c then some c else none
    | none => none
  else none

/-- R148: the unit controller takes the oldest command if it is one of this row's, and executes it
whole; otherwise the step does not happen (log 1). -/
def State.takeCommand (s : State) (mine : Command → Bool) (run : Command → State → State) : Out :=
  match s.commandFor mine with
  | some c => .next (run c s.dropCommand)
  | none => .next s

/-- The command carries this command code (Table 11.5). -/
def Command.hasCode (n : Nat) (c : Command) : Bool := decide (c.code.toNat = n)

/-- R149, step 2: a parameter field of any other length is refused with MALFORMED. -/
def State.withLength (s : State) (c : Command) (n : Nat) (t : State) : State :=
  if c.params.length = n then t else s.answer c .malformed []

end Sys2Proof.Machine
end

