-- ==== Sys2Proof/Machine/PickQueue.lean ====
section
/-! DEFINITION. The pick queue: admission (R70), coalescing (R69) and posting (R68). -/

namespace Sys2Proof.Machine

/-- The line of an entry of the pick queue. -/
def QueueEntry.line : QueueEntry → Line
  | .pick p => lineOf p.station
  | .mark m => m.line

/-- An entry is a PICK of a line. -/
def QueueEntry.isPickOf (l : Line) : QueueEntry → Bool
  | .pick p => decide (lineOf p.station = l)
  | .mark _ => false

/-- An entry is a LINE MARK of a line. -/
def QueueEntry.isMarkOf (l : Line) : QueueEntry → Bool
  | .pick _ => false
  | .mark m => decide (m.line = l)

/-- R69: the open mark updated from the mark posted: restart stays set once set. -/
def QueueEntry.update (m : LineMark) : QueueEntry → QueueEntry
  | .pick p => .pick p
  | .mark old => .mark { m with restart := old.restart || m.restart }

/-- R69: the queue with the line's open mark updated in place, or none when the queue holds no open
mark of the line. The open mark is the LINE MARK with no PICK of its line anywhere after it. -/
def coalesce (m : LineMark) : List QueueEntry → Option (List QueueEntry)
  | [] => none
  | e :: rest =>
    match coalesce m rest with
    | some rest' => some (e :: rest')
    | none =>
      if e.isMarkOf m.line && !rest.any (QueueEntry.isPickOf m.line) then some (e.update m :: rest) else none

/-- R69: the queue after a LINE MARK is posted. -/
def placeMark (q : List QueueEntry) (m : LineMark) : List QueueEntry := (coalesce m q).getD (q ++ [.mark m])

/-- R68, R69: a LINE MARK is posted. -/
def State.postMark (s : State) (m : LineMark) : State := { s with pickQueue := placeMark s.pickQueue m }

/-- R70: a PICK is admitted at 253 entries or fewer, and is otherwise refused with PICK_OVERFLOW. -/
def State.postPick (s : State) (p : Pick) : State :=
  if s.pickQueue.length ≤ Config.pickAdmission then { s with pickQueue := s.pickQueue ++ [.pick p] }
  else s.report .pickOverflow (byte p.station.val)

/-- R68: the picks of an instant are posted in turn. -/
def State.postPicks (s : State) (ps : List Pick) : State := ps.foldl State.postPick s

end Sys2Proof.Machine
end

