-- ==== Sys2Proof/Machine/Associator.lean ====
section
/-! DEFINITION. The associator (chapters 5 and 6): taking picks and line marks, candidates, the
watermark, declaration and closing, and its bank switch. -/

namespace Sys2Proof.Machine

/-- The associator's bank in use (R80). -/
def State.assocBank (s : State) : Bank := s.bankOf s.assoc.inUse

/-- All candidate slots, ascending. -/
def allSlots : List (Fin 16) := List.ofFn (fun i : Fin 16 => i)

/-- The candidate in a slot, none when the slot is FREE. -/
def State.candidate (s : State) (k : Fin 16) : Option Candidate := s.assoc.slots[k]

/-- A slot's candidate is replaced. -/
def State.setCandidate (s : State) (k : Fin 16) (c : Option Candidate) : State :=
  { s with assoc := { s.assoc with slots := s.assoc.slots.set k c } }

/-- A message is appended to the event channel (R71: without a check for space). -/
def State.send (s : State) (m : Message) : State := { s with channel := s.channel ++ [m] }

/-! ## Lookups (R76) -/

/-- The moveout of the entry of a list that names a station. -/
def moveoutOf (ns : List Neighbour) (j : Station) : Option Nat :=
  (ns.find? fun x => decide (x.station = j)).map (·.moveout)

/-- R76: the largest moveout of a list, 0 when it is empty. -/
def maxMoveout (ns : List Neighbour) : Nat := ns.foldl (fun m x => max m x.moveout) 0

/-! ## Admission (R84) -/

/-- R84: a candidate admits the pick of station j with onset t. -/
def Candidate.admits (c : Candidate) (bank : Bank) (j : Station) (t : Index) : Bool :=
  !c.picks.any (fun p => decide (p.station = j)) &&
    (match moveoutOf (bank.neighbourList c.anchor) j with
      | some m => decide (serialDistance t c.t0 ≤ m)
      | none => false) &&
    !precedes c.deadline t

/-- The slot of lowest open order among those whose candidates pass a test. -/
def lowestOrder (slots : Vector (Option Candidate) 16) (test : Candidate → Bool) : Option (Fin 16 × Candidate) :=
  allSlots.foldl (fun best k =>
    match slots[k] with
    | none => best
    | some c =>
      if test c then
        match best with
        | none => some (k, c)
        | some (k0, c0) => if c.order < c0.order then some (k, c) else some (k0, c0)
      else best) none

/-! ## Joining, declaring, extending (R85, R86, R90, R91) -/

/-- R85: the pick joins. -/
def Candidate.join (c : Candidate) (p : Pick) (weight : Nat) : Candidate :=
  { c with
    picks := c.picks ++ [p]
    weight := c.weight + weight
    earliest := earliestOf c.earliest [p.onset] }

/-- R86: a join to a DECLARED candidate may extend its deadline. -/
def Candidate.extend (c : Candidate) (a : AssocParams) : Candidate :=
  if c.extensions < a.extLimit ∨ a.extLimit = 7 then
    { c with
      deadline := earliestOf (indexPlus c.deadline a.extLength) [indexPlus c.t0 a.span]
      extensions := c.extensions + 1 }
  else c

/-- R98: the bank generation that a DECLARE message carries. -/
def State.declareGeneration (s : State) : BitVec 16 :=
  match s.assoc.inUse with
  | .active => s.ctrl.generation
  | .shadow => s.ctrl.generation + 1

/-- R91: the DECLARE message of a candidate. -/
def State.declareMessage (s : State) (k : Fin 16) (c : Candidate) : DeclareMsg :=
  { slot := k, anchor := c.anchor, t0 := c.t0, earliest := c.earliest, picks := c.picks,
    generation := s.declareGeneration,
    captureEnable := s.assocBank.params.captureEnable, captureSet := s.assocBank.params.captureSet,
    pre := s.assocBank.params.pre, post := s.assocBank.params.post,
    neighbours := (s.assocBank.neighbourList c.anchor).map (·.station) }

/-- R85, R86, R90: a pick joins the candidate of a slot. -/
def State.joinCandidate (s : State) (k : Fin 16) (c : Candidate) (p : Pick) : State :=
  let joined := c.join p (s.assocBank.station p.station).weight
  match c.state with
  | .declared => s.setCandidate k (some (joined.extend s.assocBank.params))
  | .opened =>
    if joined.quorum ≤ joined.weight ∧ 2 ≤ joined.picks.length then
      (s.setCandidate k (some { joined with state := .declared })).send
        (.declare (s.declareMessage k joined))
    else s.setCandidate k (some joined)

/-! ## Opening (R82, R87, R88, R89) -/

/-- R82: the rank of an open order among the candidates. -/
def orderRank (slots : Vector (Option Candidate) 16) (order : Nat) : Nat :=
  allSlots.countP fun k =>
    match slots[k] with
    | some c => decide (c.order < order)
    | none => false

/-- R82: the number of candidates that are OPEN or DECLARED. -/
def occupied (slots : Vector (Option Candidate) 16) : Nat := allSlots.countP fun k => (slots[k]).isSome

/-- R82: at the top of the counter the candidates are renumbered 0, 1, 2, ... in their order. -/
def Associator.renumber (a : Associator) : Associator :=
  if a.openOrder = Config.maxOpenOrder then
    { a with
      slots := tabulate fun k => (a.slots[k]).map fun c => { c with order := orderRank a.slots c.order }
      openOrder := occupied a.slots }
  else a

/-- R88: the effective quorum of a candidate anchored at j. -/
def State.effectiveQuorum (s : State) (j : Station) : Nat :=
  let counted := (s.assocBank.neighbourList j).filter fun x =>
    (s.assocBank.station x.station).enable && s.available x.station
  max 2 (min s.assocBank.params.quorum
    ((s.assocBank.station j).weight + (counted.map fun x => (s.assocBank.station x.station).weight).sum))

/-- R87: the deadline of a candidate anchored at j with onset t. -/
def State.openDeadline (s : State) (j : Station) (t : Index) : Index :=
  indexPlus t (min (maxMoveout (s.assocBank.neighbourList j) + s.assocBank.params.slack)
    s.assocBank.params.span)

/-- R87, R89: a pick that no candidate admits opens a candidate in the lowest FREE slot, or is lost. -/
def State.openCandidate (s : State) (p : Pick) : State :=
  match allSlots.find? (fun k => (s.candidate k).isNone) with
  | none => s.report .candidateFull (byte p.station.val)
  | some k =>
    let a := s.assoc.renumber
    let c : Candidate :=
      { state := .opened, order := a.openOrder, anchor := p.station, t0 := p.onset, earliest := p.onset,
        deadline := s.openDeadline p.station p.onset, extensions := 0,
        quorum := s.effectiveQuorum p.station, weight := (s.assocBank.station p.station).weight, picks := [p] }
    { s with assoc := { a with slots := a.slots.set k (some c), openOrder := a.openOrder + 1 } }

/-! ## Closing (R93, R94, R95) -/

/-- R94, R95: the candidate of a slot is closed: a DECLARED one sends its CLOSE message first. -/
def State.closeCandidate (s : State) (switchClosed : Bool) (k : Fin 16) (c : Candidate) : State :=
  match c.state with
  | .opened => s.setCandidate k none
  | .declared => (s.send (.close ⟨k, c.picks, c.weight, switchClosed⟩)).setCandidate k none

/-- R93, R97: every candidate that passes a test is closed, in ascending open order; `fuel` bounds the
number of closings, which 16 slots never exceed. -/
def State.closeWhere (switchClosed : Bool) (test : Candidate → Bool) : Nat → State → State
  | 0, s => s
  | fuel + 1, s =>
    match lowestOrder s.assoc.slots test with
    | none => s
    | some (k, c) => (s.closeCandidate switchClosed k c).closeWhere switchClosed test fuel

/-! ## Bank switch (R97) -/

/-- R67, R97: the index of an entry. -/
def QueueEntry.index : QueueEntry → Option Index
  | .pick p => some p.onset
  | .mark m => m.progress

/-- R97: whether a pending switch is made when an entry is taken. -/
def entrySwitches (sw : Option SwitchPoint) (e : QueueEntry) : Bool :=
  match sw with
  | none => false
  | some .immediate => true
  | some (.atIndex p) =>
    match e.index with
    | some i => atOrAfter i p
    | none => false

/-- R97: flush, bank, report. -/
def State.assocSwitch (s : State) : State :=
  let flushed := s.closeWhere true (fun _ => true) 16
  { flushed with assoc := { flushed.assoc with inUse := .shadow, switch := none } }.sendReport .associator

/-- R97: the switch, if taking an entry brings it about. -/
def State.assocSwitchFor (s : State) (e : QueueEntry) : State :=
  if entrySwitches s.assoc.switch e then s.assocSwitch else s

/-! ## Taking a pick (R83) -/

/-- R83, from step 2: a pick under the bank in use. -/
def State.handlePick (s : State) (p : Pick) : State :=
  if (s.assocBank.station p.station).enable then
    match lowestOrder s.assoc.slots (fun c => c.admits s.assocBank p.station p.onset) with
    | some (k, c) => s.joinCandidate k c p
    | none => s.openCandidate p
  else s

/-- R71: the oldest entry, when the event channel has at least 17 free places. -/
def State.takeable (s : State) : Option QueueEntry :=
  if s.channel.length + Config.channelReserve ≤ Config.channelPlaces then s.pickQueue.head? else none

/-- The queue without its oldest entry. -/
def State.dropEntry (s : State) : State := { s with pickQueue := s.pickQueue.tail }

/-- ASSOCIATOR_TAKE_PICK (R83). -/
def execAssociatorTakePick (s : State) : Out :=
  s.whileReleased (match s.takeable with
    | some (.pick p) => (s.dropEntry.assocSwitchFor (.pick p)).handlePick p
    | _ => s)

/-! ## Taking a line mark (R72, R73, R92) -/

/-- R73: the progress of the lines whose view is live, Line A first. -/
def liveProgress (v : PerLine LineView) : List Index :=
  (if v.a.live then v.a.progress.toList else []) ++ (if v.b.live then v.b.progress.toList else [])

/-- R73: the watermark after a view change. -/
def watermarkAfter (w : Option Index) (v : PerLine LineView) : Option Index :=
  match liveProgress v with
  | [] => w
  | i :: rest =>
    match w with
    | none => some (earliestOf i rest)
    | some old => if precedes old (earliestOf i rest) then some (earliestOf i rest) else some old

/-- R72, R73, R93: a line's view is set, the watermark judged, and candidates closed if it changed. -/
def State.viewStep (s : State) (l : Line) (v : LineView) : State :=
  let view := s.assoc.view.set l v
  let w := watermarkAfter s.assoc.watermark view
  let s' := { s with assoc := { s.assoc with view := view, watermark := w } }
  if w = s.assoc.watermark then s'
  else match w with
    | none => s'
    | some i => s'.closeWhere false (fun c => precedes c.deadline i) 16

/-- R72, R92: a LINE MARK from step 2 on. A live mark with restart set is taken as the leave and then
as the return. -/
def State.handleMark (s : State) (m : LineMark) : State :=
  if m.live then
    if m.restart then (s.viewStep m.line ⟨false, none⟩).viewStep m.line ⟨true, m.progress⟩
    else s.viewStep m.line ⟨true, m.progress⟩
  else s.viewStep m.line ⟨false, none⟩

/-- ASSOCIATOR_TAKE_LINE_MARK (R92). -/
def execAssociatorTakeLineMark (s : State) : Out :=
  s.whileReleased (match s.takeable with
    | some (.mark m) => (s.dropEntry.assocSwitchFor (.mark m)).handleMark m
    | _ => s)

end Sys2Proof.Machine
end

