-- ==== Sys2Proof/Machine/Capture.lean ====
section
/-! DEFINITION. The capture engine (chapter 7): DECLARE and CLOSE messages, planning and reservation,
bulk copies. -/

namespace Sys2Proof.Machine

/-! ## The event channel (R100) -/

/-- The channel without its oldest message. -/
def State.dropMessage (s : State) : State := { s with channel := s.channel.tail }

/-! ## Obtaining a record (R105, R106) -/

/-- The lowest FREE place of the event table. -/
def State.freePlace (s : State) : Option (Fin 32) := allPlaces.find? fun p => (s.record p).isNone

/-- The READY record of lowest declaration order: its place and event number. -/
def State.oldestReady (s : State) : Option (Fin 32 × Record) :=
  allPlaces.foldl (fun best p =>
    match s.record p with
    | none => best
    | some r =>
      if r.state = .ready then
        match best with
        | none => some (p, r)
        | some (p0, r0) => if r.order < r0.order then some (p, r) else some (p0, r0)
      else best) none

/-- The number of records that are not FREE. -/
def State.recordCount (s : State) : Nat := allPlaces.countP fun p => (s.record p).isSome

/-- R105: from a candidate number on, the first that no non-FREE record holds; 65535 is followed by 1. -/
def State.unusedNumber (s : State) : Nat → Nat → Nat
  | 0, n => n
  | fuel + 1, n =>
    if (s.findRecord n).isSome then s.unusedNumber fuel (if n = 65535 then 1 else n + 1) else n

/-- What obtaining a record answers: the state, the place if there is one, and the event numbers of
the records that retention freed. -/
structure Obtained where
  state : State
  place : Option (Fin 32)
  recycled : List Nat

/-- R106, step 1: a FREE record, or under RECYCLE the oldest READY record freed (R107). -/
def State.obtainPlace (s : State) : Obtained :=
  match s.freePlace with
  | some p => ⟨s, some p, []⟩
  | none =>
    match s.ctrl.settings.retention with
    | .keep => ⟨s, none, []⟩
    | .recycle =>
      match s.oldestReady with
      | some (p, r) => ⟨s.freeRecord p, some p, [r.number]⟩
      | none => ⟨s, none, []⟩

/-- R103, R105, R106, R108: the record of a declaration, ACTIVE and filled from the message. -/
def State.createRecord (s : State) (p : Fin 32) (m : DeclareMsg) : State :=
  let n := s.unusedNumber 32 s.capture.nextNumber
  let r : Record :=
    { number := n, state := .active, order := s.recordCount, anchor := m.anchor, t0 := m.t0,
      earliest := m.earliest, generation := m.generation, picks := m.picks, switchClosed := false,
      captureAbsent := false, captureDisabled := !m.captureEnable, capture := none }
  { s with capture := { s.capture with
      records := s.capture.records.set p (some r)
      map := s.capture.map.set m.slot (.record p)
      nextNumber := if n = 65535 then 1 else n + 1 } }

/-! ## Planning and reservation (R109 to R112) -/

/-- R109: the stations of a capture, ascending: those of the capture set that are enabled in the bank
in use for their line at the detector bank, and available. -/
def State.captureStations (s : State) (m : DeclareMsg) : List Station :=
  allStations.filter fun i =>
    (match m.captureSet with
      | .neighbourhood => decide (i = m.anchor) || m.neighbours.any (fun j => decide (j = i))
      | .all => true) &&
    ((s.bankOf (s.bankLine (lineOf i)).inUse).station i).enable && s.available i

/-- R109: start and end of the window. -/
def captureWindow (m : DeclareMsg) : CaptureSection :=
  ⟨indexMinus m.earliest m.pre, indexPlus m.earliest m.post, []⟩

/-- R110: the blocks that a window needs per station, ceil(n / 256). -/
def CaptureSection.blocksPerStation (c : CaptureSection) : Nat :=
  (c.size + Config.blockPlaces - 1) / Config.blockPlaces

/-- What an attempt to reserve answers: the state, whether the free list holds the need, and the event
numbers of the records freed. -/
structure Reserved where
  state : State
  ok : Bool
  recycled : List Nat

/-- R111: under RECYCLE, READY records are freed oldest first until the free list holds the need or no
READY record remains; `fuel` bounds the number of records, which 32 places never exceed. -/
def State.makeRoom (need : Nat) : Nat → State → Reserved
  | 0, s => ⟨s, decide (need ≤ s.capture.freeList.length), []⟩
  | fuel + 1, s =>
    if need ≤ s.capture.freeList.length then ⟨s, true, []⟩
    else
      match s.ctrl.settings.retention with
      | .keep => ⟨s, false, []⟩
      | .recycle =>
        match s.oldestReady with
        | none => ⟨s, false, []⟩
        | some (p, r) =>
          let rest := (s.freeRecord p).makeRoom need fuel
          ⟨rest.state, rest.ok, r.number :: rest.recycled⟩

/-- R112: a station entry as planned. A boundary that is neither at or after start nor before end gives an
empty bulk range and the whole window as direct range (log 28). -/
def CaptureSection.newEntry (c : CaptureSection) (boundary : Option Index) (st : Station) (blocks : List Nat) :
    StationEntry :=
  { station := st, boundary := boundary, chain := blocks.map some, bulkFirst := none, bulkCount := 0,
    directCount := 0, filledCount := 0, startClamped := false, lineLost := false, testData := false,
    bulkDone := decide (c.bulkLength boundary = 0), directDone := decide (c.size ≤ c.bulkLength boundary),
    bulkRead := 0, bulkFilled := 0 }

/-- R111, R112: the entries of a station set, each with its consecutive blocks of the free list. -/
def State.planEntries (s : State) (c : CaptureSection) : List Station → List Nat → List StationEntry
  | [], _ => []
  | st :: rest, free =>
    c.newEntry (s.bankLine (lineOf st)).progress st (free.take c.blocksPerStation) ::
      s.planEntries c rest (free.drop c.blocksPerStation)

/-- R111: the capture reserved, and the record's capture section present. -/
def State.placeCapture (s : State) (p : Fin 32) (m : DeclareMsg) (stations : List Station) : State :=
  match s.record p with
  | none => s
  | some r =>
    let w := captureWindow m
    let c := { w with entries := s.planEntries w stations s.capture.freeList }
    let t := s.setRecord p (some { r with capture := some c })
    { t with capture := { t.capture with
        freeList := s.capture.freeList.drop (stations.length * w.blocksPerStation) } }

/-- R111: an absent capture. The FAULT request of POOL_SHORT comes before the EVENT requests of the same
DECLARE (log 26). -/
def State.markAbsent (s : State) (p : Fin 32) : State :=
  match s.record p with
  | none => s
  | some r => (s.setRecord p (some { r with captureAbsent := true })).report .poolShort 0xFF

/-- R109 to R112: the capture is planned; answers the state and the event numbers recycled. -/
def State.planCapture (s : State) (p : Fin 32) (m : DeclareMsg) : State × List Nat :=
  let stations := s.captureStations m
  let room := s.makeRoom (stations.length * (captureWindow m).blocksPerStation) 32
  (if room.ok then room.state.placeCapture p m stations else room.state.markAbsent p, room.recycled)

/-! ## DECLARE (R106, R113) -/

/-- R113, R121: the EVENT DECLARED request of a record. -/
def declaredNotice (m : DeclareMsg) (r : Record) : Notice :=
  .eventDeclared r.number false m.anchor m.t0 m.earliest m.picks.length m.generation r.status
    r.entries.length ((r.capture.map CaptureSection.start).getD 0) ((r.capture.map CaptureSection.stop).getD 0)

/-- R106, R113: a declaration without a record. The FAULT request of EVENT_TABLE_FULL comes before the
EVENT DECLARED request (log 26). -/
def State.leaveUnrecorded (s : State) (m : DeclareMsg) : State :=
  let t : State := { s with capture := { s.capture with map := s.capture.map.set m.slot .unrecorded } }
  (t.report .eventTableFull 0xFF).request
    (.eventDeclared 0 true m.anchor m.t0 m.earliest m.picks.length m.generation .noRecord 0 0 0)

/-- R106 to R113: a DECLARE message with a place for its record. The EVENT RECYCLED requests and then the
EVENT DECLARED request come last, after a FAULT request of POOL_SHORT (log 26). -/
def State.declareAt (s : State) (p : Fin 32) (m : DeclareMsg) (recycled : List Nat) : State :=
  let created := s.createRecord p m
  let planned := if m.captureEnable then created.planCapture p m else (created, [])
  let announced := planned.1.requestAll ((recycled ++ planned.2).map Notice.eventRecycled)
  match announced.record p with
  | some r => announced.request (declaredNotice m r)
  | none => announced

/-- R106: a DECLARE message is handled whole. -/
def State.handleDeclare (s : State) (m : DeclareMsg) : State :=
  let got := s.obtainPlace
  match got.place with
  | some p => got.state.declareAt p m got.recycled
  | none => got.state.leaveUnrecorded m

/-- DECLARE_MESSAGE_TAKEN (R100, R106). -/
def execDeclareMessageTaken (s : State) : Out :=
  s.whileReleased (match s.channel.head? with
    | some (.declare m) => s.dropMessage.handleDeclare m
    | _ => s)

/-! ## CLOSE (R119) -/

/-- R119: the earliest onset of a pick list, taken in list order. -/
def earliestOnset (picks : List Pick) (dflt : Index) : Index :=
  match picks with
  | [] => dflt
  | p :: rest => earliestOf p.onset (rest.map (·.onset))

/-- R119: the record that a CLOSE completes. -/
def Record.closed (r : Record) (m : CloseMsg) : Record :=
  { r with
    picks := m.picks
    earliest := earliestOnset m.picks r.earliest
    switchClosed := m.switchClosed
    state := if r.allComplete then .ready else .filling }

/-- R119: a CLOSE for a record. -/
def State.closeRecord (s : State) (p : Fin 32) (r : Record) (m : CloseMsg) : State :=
  let r' := r.closed m
  let t := (s.setRecord p (some r')).request
    (.eventClosed r'.number false m.switchClosed r'.anchor r'.t0 r'.earliest m.picks.length m.weight
      (some r'.state))
  if r'.state = .ready then t.request r'.readyNotice else t

/-- R119: a CLOSE for an unrecorded declaration: anchor and t0 from the message's first pick. -/
def State.closeUnrecorded (s : State) (m : CloseMsg) : State :=
  match m.picks with
  | [] => s
  | p :: _ =>
    s.request (.eventClosed 0 true m.switchClosed p.station p.onset (earliestOnset m.picks p.onset)
      m.picks.length m.weight none)

/-- R104, R119: a CLOSE message is handled whole. A CLOSE that finds its entry none, or naming no
record, is discarded. -/
def State.handleClose (s : State) (m : CloseMsg) : State :=
  let t : State := { s with capture := { s.capture with map := s.capture.map.set m.slot .empty } }
  match s.capture.map[m.slot] with
  | .empty => t
  | .unrecorded => t.closeUnrecorded m
  | .record p =>
    match t.record p with
    | some r => t.closeRecord p r m
    | none => t

/-- CLOSE_MESSAGE_TAKEN (R100, R119). -/
def execCloseMessageTaken (s : State) : Out :=
  s.whileReleased (match s.channel.head? with
    | some (.close m) => s.dropMessage.handleClose m
    | _ => s)

/-! ## Bulk copies (R114) -/

/-- R114: what the reading of one slot makes of an entry. `hit` is the slot's filled mark when its tag
equals the index sought, none when it does not. -/
def bulkStep (i : Index) (length : Nat) (hit : Option Bool) (e : StationEntry) : StationEntry :=
  let e' : StationEntry :=
    match hit with
    | some filled =>
      { e with
        bulkFirst := if e.bulkCount = 0 then some i else e.bulkFirst
        bulkCount := e.bulkCount + 1
        bulkFilled := e.bulkFilled + filled.toNat
        filledCount := e.filledCount + filled.toNat }
    | none =>
      { e with
        startClamped := true
        bulkFirst := none
        bulkCount := 0
        filledCount := e.filledCount - e.bulkFilled
        bulkFilled := 0 }
  { e' with bulkRead := e.bulkRead + 1, bulkDone := decide (length ≤ e.bulkRead + 1) }

/-- R114: a bulk copy reads the ring slot of the next index of its range. -/
def State.bulkRead (s : State) (p : Fin 32) (st : Station) (c : CaptureSection) (e : StationEntry) : State :=
  let i := indexPlus c.start e.bulkRead
  let slot := s.mem.ringSlot st i
  let hit : Option Bool := if slot.tag = some i then some slot.filled else none
  let mem := if slot.tag = some i then s.mem.writeChain e.chain (c.offset i) ⟨slot.filled, slot.samples⟩
    else s.mem
  { s with mem := mem }.entryEvent p st (bulkStep i (c.bulkLength e.boundary) hit)

/-- R114: the step of the bulk copy of a station's entry, if that copy is in flight. -/
def State.bulkReadAt (s : State) (p : Fin 32) (st : Station) : State :=
  match s.record p with
  | none => s
  | some r =>
    match r.capture, r.entry st with
    | some c, some e => if e.bulkDone then s else s.bulkRead p st c e
    | _, _ => s

/-- BULK_COPY_READ (R114). -/
def execBulkCopyRead (place station : Nat) (s : State) : Out :=
  if h : place < 32 ∧ station < 64 then
    s.whileReleased (s.bulkReadAt ⟨place, h.1⟩ ⟨station, h.2⟩)
  else .refused .illFormed

end Sys2Proof.Machine
end

