-- ==== Sys2Proof/Machine/Arithmetic.lean ====
section
/-! DEFINITION. The detector arithmetic (R38 to R44) and the detector's state machine (R47 to R54)
for one station at one instant. All arithmetic is in exact integers; `/` on Int rounds toward minus
infinity for the positive divisors used here. -/

namespace Sys2Proof.Machine

/-! ## Trace, high-pass, energy -/

/-- R21: whether a component of this role is used. -/
def Mode.uses (m : Mode) (r : Role) : Bool :=
  match m with
  | .vertical => decide (r = .z)
  | .vector => decide (r ≠ .off)

/-- R39: saturation to −8,388,607 to 8,388,607. -/
def saturate (h : Int) : Int := max (-Config.maxHighPass) (min Config.maxHighPass h)

/-- R39: the high-pass value. -/
def highPassValue (k : Nat) (x : Int) (hp : HighPass) : Int :=
  saturate (x - hp.xPrev + (k : Int) * hp.hPrev / 65536)

/-- R40: the component energy. -/
def componentEnergy (g : Nat) (h : Int) : Nat := min (h.natAbs * h.natAbs / 2 ^ g) Config.maxComponentEnergy

/-- R39, R41: one component at one instant: its high-pass state afterwards, and its energy. `seed` is
the first warm-up instant. A component that is not used keeps its state and adds nothing. -/
def componentStep (used seed : Bool) (k g : Nat) (x : Sample) (hp : HighPass) : HighPass × Nat :=
  if used then
    let before : HighPass := if seed then ⟨x.toInt, 0⟩ else hp
    let h := highPassValue k x.toInt before
    (⟨x.toInt, h⟩, componentEnergy g h)
  else (hp, 0)

/-! ## Averages, tests, ratio -/

/-- R41: an average moved toward E by one shift. -/
def averageStep (acc e shift : Nat) : Nat := ((acc : Int) + ((e : Int) - (acc : Int)) / 2 ^ shift).toNat

/-- R41: the shift at warm-up instant n. -/
def warmupShift (shift n : Nat) : Nat := min shift (Nat.log2 n)

/-- R43: the effective LTA. -/
def effectiveLta (lta f : Nat) : Nat := max (max lta (256 * f)) 1

/-- R44: the on test. -/
def onTest (sta rOn l : Nat) : Bool := decide (rOn * l ≤ 16 * sta)

/-- R44: the off test. -/
def offTest (sta rOff l : Nat) : Bool := decide (16 * sta < rOff * l)

/-- R44: the ratio, in units of 1/16. -/
def ratio (sta l : Nat) : Nat := min (16 * sta / l) Config.maxRatio

/-! ## The state machine -/

/-- The transitions of Table 4.2 that step 6 of R37 makes. -/
inductive Transition where
  /-- No detector work: OFF or SUSPENDED. -/
  | noRun
  /-- WARMUP goes on. -/
  | warming
  /-- R49. -/
  | warmupEnd
  /-- R50: the on test failed. -/
  | stayArmed
  /-- R50: the on test met, D above 0. -/
  | onset
  /-- R50: the on test met, D = 0. -/
  | onsetPick
  /-- R51: the on test met, the count above 0. -/
  | debouncing
  /-- R51: the count reached 0. -/
  | debounceComplete
  /-- R51: the on test failed. -/
  | debounceFailed
  /-- R52: the off test met. -/
  | offTestMet
  /-- R52: the ON count reached M. -/
  | maxDuration
  /-- R52: otherwise. -/
  | stayOn
  /-- R53: the count above 0. -/
  | holding
  /-- R53: the count reached 0. -/
  | holdEnd
deriving DecidableEq, Repr

/-- What the detector of one station makes of one instant. -/
structure DetectorResult where
  after : StationState
  transition : Transition
  pick : Option Pick
deriving DecidableEq, Repr

/-- What one station's detector reads at an instant besides its state: its number, its entry and set
in the bank in use, the index, and whether the instant is held for it (R38). -/
structure DetectorInput where
  station : Station
  cfg : StationEntryCfg
  set : DetectorSet
  index : Index
  held : Bool
deriving DecidableEq, Repr

/-- R47, R48, step 1 of R37: the conditions of activity act on the detector's state. -/
def judgeActivity (ok : Bool) (x : StationState) : StationState :=
  match x.det with
  | .off => x
  | .suspended => if ok then x.enterWarmup else x
  | _ => if ok then x else x.enterSuspended

/-- Steps 3 to 5 of R37: the high-pass state and the STA after the instant, the warm-up count raised
in WARMUP, and E. -/
def runArithmetic (inp : DetectorInput) (x : StationState) : StationState × Nat :=
  let warming := decide (x.det = .warmup)
  let n := if warming then x.warm + 1 else x.warm
  let seed := warming && decide (n = 1)
  let step := fun (r : Role) (smp : Sample) (hp : HighPass) =>
    componentStep (inp.cfg.mode.uses r) seed inp.set.k inp.set.g smp hp
  let c1 := step inp.cfg.role1 x.held.c1 x.hp1
  let c2 := step inp.cfg.role2 x.held.c2 x.hp2
  let c3 := step inp.cfg.role3 x.held.c3 x.hp3
  let e := 256 * (c1.2 + c2.2 + c3.2)
  let a := if warming then warmupShift inp.set.s n else inp.set.s
  ({ x with warm := n, hp1 := c1.1, hp2 := c2.1, hp3 := c3.1, sta := averageStep x.sta e a }, e)

/-- The marks of an instant: the confirmed code is CLIPPED. -/
def clippedNow (x : StationState) : Bool := decide (x.confirmed = some 1)

/-- R54: the pick made from a pending detection. -/
def makePick (inp : DetectorInput) (d : Detection) : Pick :=
  ⟨inp.station, d.onset, d.peak, inp.cfg.set, d.clipped, d.filled⟩

/-- The state after ON: HOLD with hold count H, or ARMED when H = 0 (R52). -/
def leaveOn (h : Nat) (x : StationState) : StationState :=
  if h = 0 then { x with det := .armed } else { x with det := .hold, hold := h }

/-- R50: an on test met in ARMED. -/
def onsetStep (inp : DetectorInput) (r : Nat) (x : StationState) : DetectorResult :=
  let d : Detection := ⟨inp.index, r, clippedNow x, inp.held⟩
  if inp.set.d = 0 then
    ⟨{ x with det := .on, onCount := 0, detection := none }, .onsetPick, some (makePick inp d)⟩
  else ⟨{ x with det := .pending, debounce := inp.set.d, detection := some d }, .onset, none⟩

/-- R51: PENDING. A PENDING detector always has a pending detection; without one the instant begins
one (log 16). -/
def pendingStep (inp : DetectorInput) (met : Bool) (r : Nat) (x : StationState) : DetectorResult :=
  if met then
    let old := x.detection.getD ⟨inp.index, r, false, false⟩
    let d : Detection := ⟨old.onset, max old.peak r, old.clipped || clippedNow x, old.filled || inp.held⟩
    if x.debounce - 1 = 0 then
      ⟨{ x with det := .on, debounce := 0, onCount := 0, detection := none }, .debounceComplete,
        some (makePick inp d)⟩
    else ⟨{ x with debounce := x.debounce - 1, detection := some d }, .debouncing, none⟩
  else ⟨{ x with det := .armed, detection := none }, .debounceFailed, none⟩

/-- R52: ON. -/
def onStep (inp : DetectorInput) (off : Bool) (x : StationState) : DetectorResult :=
  let count := min (x.onCount + 1) Config.maxRatio
  let y := { x with onCount := count }
  if off then ⟨leaveOn inp.set.h y, .offTestMet, none⟩
  else if 0 < inp.set.m ∧ inp.set.m ≤ count then ⟨leaveOn inp.set.h y, .maxDuration, none⟩
  else ⟨y, .stayOn, none⟩

/-- R53: HOLD. -/
def holdStep (x : StationState) : DetectorResult :=
  if x.hold - 1 = 0 then ⟨{ x with det := .armed, hold := 0 }, .holdEnd, none⟩
  else ⟨{ x with hold := x.hold - 1 }, .holding, none⟩

/-- Step 6 of R37: the tests and the transition. `x` is the station after step 5, its LTA as it stood
before the instant. -/
def transitionStep (inp : DetectorInput) (x : StationState) : DetectorResult :=
  let l := effectiveLta x.lta inp.set.f
  let met := onTest x.sta inp.set.rOn l
  let off := offTest x.sta inp.set.rOff l
  let r := ratio x.sta l
  match x.det with
  | .off => ⟨x, .noRun, none⟩
  | .suspended => ⟨x, .noRun, none⟩
  | .warmup =>
    if 2 ^ inp.set.l ≤ x.warm then ⟨{ x with det := .armed, detection := none }, .warmupEnd, none⟩
    else ⟨x, .warming, none⟩
  | .armed => if met then onsetStep inp r x else ⟨x, .stayArmed, none⟩
  | .pending => pendingStep inp met r x
  | .on => onStep inp off x
  | .hold => holdStep x

/-- Step 7 of R37 (R42): the LTA by the transition made: frozen in PENDING and ON, set to the STA when
the ON count ended ON, and otherwise updated. `b` is the shift of R41. -/
def ltaStep (t : Transition) (e b : Nat) (x : StationState) : StationState :=
  match t with
  | .onset => x
  | .onsetPick => x
  | .debouncing => x
  | .debounceComplete => x
  | .stayOn => x
  | .noRun => x
  | .maxDuration => { x with lta := x.sta }
  | .warming => { x with lta := averageStep x.lta e b }
  | .warmupEnd => { x with lta := averageStep x.lta e b }
  | .stayArmed => { x with lta := averageStep x.lta e b }
  | .debounceFailed => { x with lta := averageStep x.lta e b }
  | .offTestMet => { x with lta := averageStep x.lta e b }
  | .holding => { x with lta := averageStep x.lta e b }
  | .holdEnd => { x with lta := averageStep x.lta e b }

/-- R37, steps 2 to 7: the detector's work once its state has been judged. -/
def detectorWork (inp : DetectorInput) (x : StationState) : DetectorResult :=
  if x.det = .off ∨ x.det = .suspended then ⟨x, .noRun, none⟩
  else
    let run := runArithmetic inp x
    let b := if x.det = .warmup then warmupShift inp.set.l run.1.warm else inp.set.l
    let t := transitionStep inp run.1
    { t with after := ltaStep t.transition run.2 b t.after }

end Sys2Proof.Machine
end

