-- ==== Sys2Proof/Machine/Detector.lean ====
section
/-! DEFINITION. The detector bank: status confirmation (R22 to R26), the work of one instant (R30,
R37, R59, R116), line-leaves (R57) and the rows that name one detector transition. -/

namespace Sys2Proof.Machine

/-! ## Status confirmation -/

/-- R22: a status byte read as a code; 16 or more is read as 15. -/
def readStatusCode (b : Byte) : StatusCode := if h : b.toNat < 16 then ⟨b.toNat, h⟩ else 15

/-- R26: a new code enters the unread queue. -/
def enterUnread (q : List StatusCode) (c : StatusCode) : List StatusCode :=
  match q with
  | [] => [c]
  | c1 :: _ => [c1, c]

/-- R23, R24: a present slot's code is compared with the confirmed and the candidate code. -/
def confirmCode (c : StatusCode) (x : StationState) : StationState :=
  if x.confirmed = some c then { x with candidate := none }
  else if x.candidate = some c then
    { x with confirmed := some c, candidate := none, unread := enterUnread x.unread c }
  else { x with candidate := some c }

/-! ## One instant -/

/-- An instant of a line as the detector bank takes it (R12, R59). `map` is none for a filled instant. -/
structure Instant where
  line : Line
  index : Index
  test : Bool
  map : Option PositionMap
deriving DecidableEq, Repr

/-- A station's present place in an instant: none when the instant is filled or the place absent. -/
def Instant.slot (n : Instant) (i : Station) : Option SlotData :=
  match n.map with
  | some m => m[positionOf i]
  | none => none

/-- What one instant makes of one station: its state after, the code it confirmed with the previous
one (R24), and what its detector did. -/
structure StationFlow where
  after : StationState
  confirmed : Option (StatusCode × Option StatusCode)
  transition : Transition
  pick : Option Pick
deriving DecidableEq, Repr

/-- Steps 1 and 2 of Table 2.7 on the station's own state: confirmation and the held sample (R23, R30). -/
def receiveSlot (slot : Option SlotData) (x : StationState) : StationState :=
  match slot with
  | some d => { confirmCode (readStatusCode d.status) x with held := d.samples }
  | none => x

/-- R24: the new code and the previous one, when the confirmed code changed to a code. -/
def codeChange (before after : StationState) : Option (StatusCode × Option StatusCode) :=
  match after.confirmed with
  | some c => if before.confirmed = some c then none else some (c, before.confirmed)
  | none => none

/-- Steps 1, 2 and 4 of Table 2.7 for one station: `bank` is the bank that the line uses for this
instant, and `old` the bank it leaves when it switches with this instant (R61, R62). -/
def stationFlow (n : Instant) (old : Option Bank) (bank : Bank) (i : Station) (x : StationState) : StationFlow :=
  let received := receiveSlot (n.slot i) x
  let ok := conditionsHold true n.test received.confirmed
  let compared := match old with
    | some b => continuity b bank i ok received
    | none => received
  let res := detectorWork ⟨i, bank.station i, bank.detectorSet i, n.index, (n.slot i).isNone⟩
    (judgeActivity ok compared)
  ⟨res.after, codeChange x received, res.transition, res.pick⟩

/-- R30: what the instant writes to a station's ring and, where it lies in a direct range, to its
chains: the held sample as it stands after the instant, marked filled unless the place is present. -/
def writtenPlace (slot : Option SlotData) (x : StationState) : BlockPlace :=
  match slot with
  | some d => ⟨false, d.samples⟩
  | none => ⟨true, x.held⟩

/-- R116: what a direct write makes of an entry. -/
def directStep (i stop : Index) (test filled : Bool) (e : StationEntry) : StationEntry :=
  { e with
    directCount := e.directCount + 1
    filledCount := e.filledCount + filled.toNat
    testData := e.testData || test
    directDone := decide (i = stop) }

/-- R116: the direct write of an instant for a station's entry of the record at one place. -/
def State.directWriteAt (n : Instant) (st : Station) (x : BlockPlace) (s : State) (p : Fin 32) : State :=
  match s.record p with
  | none => s
  | some r =>
    match r.capture, r.entry st with
    | some c, some e =>
      if c.directContains e n.index && !e.directDone then
        { s with mem := s.mem.writeChain e.chain (c.offset n.index) x }.entryEvent p st
          (directStep n.index c.stop n.test x.filled)
      else s
    | _, _ => s

/-- R116: the direct writes of an instant for one station, over all records in ascending place (log 9). -/
def State.directWrites (n : Instant) (st : Station) (x : BlockPlace) (s : State) : State :=
  allPlaces.foldl (State.directWriteAt n st x) s

/-- The effects of one station's part of an instant outside the station's own state: the STATION
notice (R24), the ring write (R30) and the direct writes (R116) with their EVENT READY requests, in the
order of Table 2.7 (log 26). -/
def State.stationEffects (n : Instant) (before : Station → StationState) (flow : Station → StationFlow)
    (s : State) (i : Station) : State :=
  let x := writtenPlace (n.slot i) (before i)
  let s1 := match (flow i).confirmed with
    | some (c, previous) => s.request (.statusChange i c previous n.index)
    | none => s
  let s2 := { s1 with mem := s1.mem.writeRing i n.index ⟨some n.index, x.filled, x.samples⟩ }
  s2.directWrites n i x

/-! ## Taking an instant (R59) -/

/-- R12, R59: the index of an entry's next instant, its filled instants first. -/
def InputEntry.nextIndex (e : InputEntry) : Index :=
  if e.taken < e.fill then indexPlus (indexMinus e.index e.fill) e.taken else e.index

/-- The instant that an entry offers next. -/
def InputEntry.nextInstant (e : InputEntry) (l : Line) : Instant :=
  ⟨l, e.nextIndex, e.test, if e.taken < e.fill then none else some e.map⟩

/-- The buffer after the oldest entry's next instant has been taken (R12). -/
def afterTake : List InputEntry → List InputEntry
  | [] => []
  | e :: rest => if e.taken < e.fill then { e with taken := e.taken + 1 } :: rest else rest

/-- The instant that a line offers: none when its buffer is empty, or when a line-leave that it has
reported is still to be performed, which comes first (R11, R25, log 6). -/
def State.offered (s : State) (l : Line) : Option Instant :=
  if (s.bankLine l).leaves = 0 then ((s.port l).buffer.head?).map (·.nextInstant l) else none

/-- R59: the choice between the lines. -/
def State.chosen (s : State) : Option Instant :=
  match s.offered .a, s.offered .b with
  | none, none => none
  | some a, none => some a
  | none, some b => some b
  | some a, some b => if precedes b.index a.index then some b else some a

/-- R61: whether a line with this pending switch switches with an instant of this index. -/
def switchesAt (sw : Option SwitchPoint) (i : Index) : Bool :=
  match sw with
  | none => false
  | some .immediate => true
  | some (.atIndex p) => atOrAfter i p

/-- R61: the bank that a line leaves with an instant, when it switches with it. -/
def State.leftBank (s : State) (n : Instant) : Option Bank :=
  if switchesAt (s.bankLine n.line).switch n.index then some (s.bankOf (s.bankLine n.line).inUse) else none

/-- The bank that the instant is computed with: the new one when the line switches with it (R33, R61). -/
def State.instantBank (s : State) (n : Instant) : Bank :=
  if switchesAt (s.bankLine n.line).switch n.index then s.ctrl.shadow
  else s.bankOf (s.bankLine n.line).inUse

/-- What an instant makes of a station of its line. -/
def State.flowOf (s : State) (n : Instant) (i : Station) : StationFlow :=
  stationFlow n (s.leftBank n) (s.instantBank n) i (s.station i)

/-- R60: what the instant makes of the line's own state: progress, live view and last TEST. -/
def BankLine.took (b : BankLine) (n : Instant) : BankLine :=
  { b with progress := some n.index, live := true, lastTest := n.test }

/-- R59, R37, R68: one instant taken whole: the switch if the instant brings it about, the work of the
line's 32 stations in ascending position, the processed progress, the picks, whose refusals report
PICK_OVERFLOW after the stations' notices (log 26), and the line mark. -/
def State.takeWhole (s : State) (n : Instant) : State :=
  let s0 := s.setPort n.line { s.port n.line with buffer := afterTake (s.port n.line).buffer }
  let s1 := if switchesAt (s.bankLine n.line).switch n.index then s0.takeShadow n.line else s0
  let s2 := (stationsOf n.line).foldl (State.stationEffects n s.station (s.flowOf n)) s1
  let s3 := s2.mapStations fun i x => if lineOf i = n.line then (s.flowOf n i).after else x
  let s4 := s3.setBankLine n.line ((s3.bankLine n.line).took n)
  (s4.postPicks ((stationsOf n.line).filterMap fun i => (s.flowOf n i).pick)).postMark
    ⟨n.line, true, some n.index, false⟩

/-- TAKE_INSTANT (R59): with both buffers empty the detector bank waits. -/
def execTakeInstant (s : State) : Out :=
  s.whileReleased (match s.chosen with
    | some n => s.takeWhole n
    | none => s)

/-- The instant about to be taken, when taking it makes the named transition at a station (log 4). -/
def State.takeWith (s : State) (i : Station) (t : Transition) : State :=
  match s.chosen with
  | some n => if lineOf i = n.line ∧ (s.flowOf n i).transition = t then s.takeWhole n else s
  | none => s

/-- The meaning of a row that names a transition of a station's detector: Table 4.2 makes it while an
instant is taken, at step 6 of R37, and R59 takes the instant whole (log 4). -/
def execTransition (n : Nat) (t : Transition) (s : State) : Out :=
  if h : n < 64 then s.whileReleased (s.takeWith ⟨n, h⟩ t) else .refused .illFormed

/-- WARMUP_END (R49). -/
def execWarmupEnd (station : Nat) (s : State) : Out := execTransition station .warmupEnd s

/-- DEBOUNCE_COMPLETE (R51). -/
def execDebounceComplete (station : Nat) (s : State) : Out := execTransition station .debounceComplete s

/-- ON_MAX_DURATION (R52). -/
def execOnMaxDuration (station : Nat) (s : State) : Out := execTransition station .maxDuration s

/-- HOLD_END (R53). -/
def execHoldEnd (station : Nat) (s : State) : Out := execTransition station .holdEnd s

/-! ## Line-leave (R57) -/

/-- R25 and step 2 of R57: a station at a line-leave. -/
def StationState.lineLeft (x : StationState) : StationState :=
  let y := { x with confirmed := none, candidate := none }
  match y.det with
  | .off => y
  | .suspended => y
  | _ => y.enterSuspended

/-- R117: a direct range that has not ended ends with LINE_LOST. -/
def lineLostStep (e : StationEntry) : StationEntry :=
  if e.directDone then e else { e with directDone := true, lineLost := true }

/-- R117: the entries of one station in all records, ascending places (log 9). -/
def State.loseStation (s : State) (st : Station) : State :=
  allPlaces.foldl (fun t p => t.entryEvent p st lineLostStep) s

/-- R57: the detector bank performs a line-leave. -/
def State.performLeave (s : State) (l : Line) : State :=
  let s1 := s.mapStations fun i x => if lineOf i = l then x.lineLeft else x
  let s2 := s1.setBankLine l { s1.bankLine l with live := false, leaves := (s1.bankLine l).leaves - 1 }
  let s3 := if (s2.bankLine l).switch.isSome then s2.switchIdleLine l else s2
  let s4 := (stationsOf l).foldl State.loseStation s3
  s4.postMark ⟨l, false, (s4.bankLine l).progress, true⟩

/-- DETECTOR_LINE_LEAVE (R57): a line-leave that the line port has reported is performed. -/
def execDetectorLineLeave (l : Line) (s : State) : Out :=
  s.whileReleased (if (s.bankLine l).leaves = 0 then s else s.performLeave l)

/-! ## RESTART DETECTORS (R58) and READ STATION STATUS (R27) at the detector bank -/

/-- R58: one station of the range. -/
def StationState.restarted (x : StationState) : StationState :=
  match x.det with
  | .off => x
  | .suspended => x
  | _ => x.enterWarmup

/-- R27: what a read reports of one station: its number, its confirmed code, and its oldest unread
code or 0xFF. -/
def stationReport (i : Station) (x : StationState) : List Byte :=
  [byte i.val, statusByte x.confirmed, match x.unread with
    | c :: _ => byte c.val
    | [] => 0xFF]

/-- R65: a station after RESET ENGINE, from its entry in the active bank. -/
def StationState.engineReset (x : StationState) (enabled lineLive lastTest : Bool) : StationState :=
  { x with
    det := if !enabled then .off
      else if conditionsHold lineLive lastTest x.confirmed then .warmup else .suspended
    warm := 0, debounce := 0, onCount := 0, hold := 0, detection := none }

end Sys2Proof.Machine
end

