-- ==== Sys2Proof/Machine/Operands.lean ====
section
/-! DEFINITION. What commands carry: table entry layouts (R167) with their clamping rules (R20, R34,
R77, R79), and the unit settings' layout (R166) with theirs (R151). Each reading answers the stored
value and the number of clamps. -/

namespace Sys2Proof.Machine

/-- A value brought into lo to hi, and the number of clamps this took. -/
def clampTo (lo hi n : Nat) : Nat × Nat :=
  if n < lo then (lo, 1) else if hi < n then (hi, 1) else (n, 0)

/-- A two-valued code, 0 false and 1 true; any other code is taken as `other`, a clamp. -/
def clampCode (other : Bool) (n : Nat) : Bool × Nat :=
  if n = 0 then (false, 0) else if n = 1 then (true, 0) else (other, 1)

/-- The high four bits of a byte. -/
def highNibble (n : Nat) : Nat := n / 16

/-- The low four bits of a byte. -/
def lowNibble (n : Nat) : Nat := n % 16

/-- Entries as a table holds them, with the number of clamps that storing took. -/
structure Clamped (α : Type) where
  value : α
  clamps : Nat
deriving Repr

/-! ## Station entries (R20, R167) -/

/-- Role codes: 0 OFF, 1 Z, 2 H1, 3 H2. -/
def Role.code : Role → Nat
  | .off => 0
  | .z => 1
  | .h1 => 2
  | .h2 => 3

/-- R20: a role code; any other code is taken as OFF. -/
def readRole (n : Nat) : Role × Nat :=
  if n = 0 then (.off, 0) else if n = 1 then (.z, 0) else if n = 2 then (.h1, 0)
  else if n = 3 then (.h2, 0) else (.off, 1)

/-- Mode codes: 0 VERTICAL, 1 VECTOR. -/
def Mode.code : Mode → Nat
  | .vertical => 0
  | .vector => 1

/-- R20: a mode code; any other code is taken as VERTICAL. -/
def readMode (n : Nat) : Mode × Nat :=
  if n = 0 then (.vertical, 0) else if n = 1 then (.vector, 0) else (.vertical, 1)

/-- R20: a detector-set number; a value above 7 becomes 7. -/
def readSet (n : Nat) : Fin 8 × Nat := if h : n < 8 then (⟨n, h⟩, 0) else (7, 1)

/-- R20, second step: the mode checked against the roles. -/
def fixRoles (x : StationEntryCfg) : Clamped StationEntryCfg :=
  match x.mode with
  | .vertical =>
    if x.role1 ≠ .z ∧ x.role2 ≠ .z ∧ x.role3 ≠ .z then ⟨{ x with role1 := .z }, 1⟩ else ⟨x, 0⟩
  | .vector =>
    if x.role1 = .off ∧ x.role2 = .off ∧ x.role3 = .off then ⟨{ x with role1 := .z }, 1⟩ else ⟨x, 0⟩

/-- R20: a station entry as stored. -/
def readStationEntry (bs : List Byte) : Clamped StationEntryCfg :=
  let enable := clampCode true (at8 bs 0)
  let role1 := readRole (highNibble (at8 bs 1))
  let role2 := readRole (lowNibble (at8 bs 1))
  let role3 := readRole (highNibble (at8 bs 2))
  let mode := readMode (lowNibble (at8 bs 2))
  let set := readSet (highNibble (at8 bs 3))
  let weight := clampTo 1 3 (lowNibble (at8 bs 3))
  let fixed := fixRoles { enable := enable.1, role1 := role1.1, role2 := role2.1, role3 := role3.1,
                          mode := mode.1, set := set.1, weight := weight.1 }
  ⟨fixed.value, enable.2 + role1.2 + role2.2 + role3.2 + mode.2 + set.2 + weight.2 + fixed.clamps⟩

/-- Table 11.7: a station entry as READ TABLE reports it. -/
def writeStationEntry (x : StationEntryCfg) : List Byte :=
  [markByte x.enable, byte (x.role1.code * 16 + x.role2.code), byte (x.role3.code * 16 + x.mode.code),
    byte (x.set.val * 16 + x.weight)]

/-! ## Detector sets (R34, R167) -/

/-- R34: a detector set as stored. -/
def readDetectorSet (bs : List Byte) : Clamped DetectorSet :=
  let g := clampTo 0 16 (at8 bs 2)
  let s := clampTo 2 10 (at8 bs 3)
  let l := clampTo 6 16 (at8 bs 4)
  let rOn := clampTo 16 1023 (at16 bs 5)
  let rOff := clampTo 8 1023 (at16 bs 7)
  let l' := if l.1 < s.1 + 3 then (s.1 + 3, 1) else (l.1, 0)
  let rOff' := if rOn.1 < rOff.1 then (rOn.1, 1) else (rOff.1, 0)
  ⟨{ k := at16 bs 0, g := g.1, s := s.1, l := l'.1, rOn := rOn.1, rOff := rOff'.1, d := at8 bs 9,
     m := at16 bs 10, h := at16 bs 12, f := at16 bs 14 },
    g.2 + s.2 + l.2 + rOn.2 + rOff.2 + l'.2 + rOff'.2⟩

/-- Table 11.7: a detector set as READ TABLE reports it. -/
def writeDetectorSet (x : DetectorSet) : List Byte :=
  be16 x.k ++ [byte x.g, byte x.s, byte x.l] ++ be16 x.rOn ++ be16 x.rOff ++ [byte x.d] ++
    be16 x.m ++ be16 x.h ++ be16 x.f ++ [0, 0]

/-! ## Neighbour lists (R77, R167) -/

/-- R77: the entry places within the count, taken in their order. -/
def readNeighbours (owner : Station) (bs : List Byte) : List Nat → Clamped (List Neighbour)
  | [] => ⟨[], 0⟩
  | p :: earlier =>
    let before := readNeighbours owner bs earlier
    let moveout := clampTo 1 16383 (at16 bs (2 + 3 * p))
    if h : at8 bs (1 + 3 * p) < 64 then
      let st : Station := ⟨at8 bs (1 + 3 * p), h⟩
      if st = owner ∨ before.value.any (fun x => decide (x.station = st)) then
        ⟨before.value, before.clamps + 1⟩
      else ⟨before.value ++ [⟨st, moveout.1⟩], before.clamps + moveout.2⟩
    else ⟨before.value, before.clamps + 1⟩

/-- R77: a neighbour list as stored. -/
def readNeighbourList (owner : Station) (bs : List Byte) : Clamped (List Neighbour) :=
  let count := clampTo 0 15 (at8 bs 0)
  let kept := readNeighbours owner bs (List.range count.1).reverse
  ⟨kept.value, count.2 + kept.clamps⟩

/-- Table 11.7: a neighbour list as READ TABLE reports it; unused places carry station 0xFF, moveout 0. -/
def writeNeighbourList (xs : List Neighbour) : List Byte :=
  byte xs.length :: ((xs.map fun x => byte x.station.val :: be16 x.moveout).flatten ++
    (List.replicate (15 - xs.length) ([0xFF, 0, 0] : List Byte)).flatten)

/-! ## Association parameters (R79, R167) -/

/-- Capture-set codes: 0 NEIGHBOURHOOD, 1 ALL; any other code is taken as NEIGHBOURHOOD (R79). -/
def readCaptureSet (n : Nat) : CaptureSet × Nat :=
  if n = 0 then (.neighbourhood, 0) else if n = 1 then (.all, 0) else (.neighbourhood, 1)

/-- The code of a capture set. -/
def CaptureSet.code : CaptureSet → Nat
  | .neighbourhood => 0
  | .all => 1

/-- R79: the association parameters as stored. -/
def readAssocParams (bs : List Byte) : Clamped AssocParams :=
  let quorum := clampTo 2 192 (at16 bs 0)
  let slack := clampTo 0 4095 (at16 bs 2)
  let ext := clampTo 0 4095 (at16 bs 4)
  let limit := clampTo 0 7 (at16 bs 6)
  let span := clampTo 1 65535 (at16 bs 8)
  let enable := clampCode true (at8 bs 10)
  let set := readCaptureSet (at8 bs 11)
  let pre := clampTo 0 4095 (at16 bs 12)
  let post := clampTo 0 4096 (at16 bs 14)
  ⟨{ quorum := quorum.1, slack := slack.1, extLength := ext.1, extLimit := limit.1, span := span.1,
     captureEnable := enable.1, captureSet := set.1, pre := pre.1, post := post.1 },
    quorum.2 + slack.2 + ext.2 + limit.2 + span.2 + enable.2 + set.2 + pre.2 + post.2⟩

/-- Table 11.7: the association parameters as READ TABLE reports them. -/
def writeAssocParams (x : AssocParams) : List Byte :=
  be16 x.quorum ++ be16 x.slack ++ be16 x.extLength ++ be16 x.extLimit ++ be16 x.span ++
    [markByte x.captureEnable, byte x.captureSet.code] ++ be16 x.pre ++ be16 x.post

/-! ## Tables (R154, R155, R167) -/

/-- The four tables. -/
inductive TableId where
  | stations
  | sets
  | neighbours
  | params
deriving DecidableEq, Repr

/-- R167: table identifiers 1 to 4. -/
def readTableId (n : Nat) : Option TableId :=
  if n = 1 then some .stations else if n = 2 then some .sets else if n = 3 then some .neighbours
  else if n = 4 then some .params else none

/-- Table 11.7: entry sizes. -/
def TableId.entrySize : TableId → Nat
  | .stations => 4
  | .sets => 18
  | .neighbours => 46
  | .params => 16

/-- The number of entries of a table (R154). -/
def TableId.entries : TableId → Nat
  | .stations => 64
  | .sets => 8
  | .neighbours => 64
  | .params => 1

/-- The greatest count of one command: 32 for the neighbour table (R154). -/
def TableId.maxCount : TableId → Nat
  | .stations => 64
  | .sets => 8
  | .neighbours => 32
  | .params => 1

/-- R154, step 3: the range is valid. -/
def TableId.rangeOk (t : TableId) (first count : Nat) : Bool :=
  decide (1 ≤ count) && decide (first + count ≤ t.entries) && decide (count ≤ t.maxCount)

/-- R154, step 6: one entry is clamped by its table's rule and stored into a bank. -/
def Bank.load (b : Bank) (t : TableId) (n : Nat) (bs : List Byte) : Clamped Bank :=
  match t with
  | .stations =>
    let x := readStationEntry bs
    if h : n < 64 then ⟨{ b with stations := b.stations.set n x.value }, x.clamps⟩ else ⟨b, 0⟩
  | .sets =>
    let x := readDetectorSet bs
    if h : n < 8 then ⟨{ b with sets := b.sets.set n x.value }, x.clamps⟩ else ⟨b, 0⟩
  | .neighbours =>
    if h : n < 64 then
      let x := readNeighbourList ⟨n, h⟩ bs
      ⟨{ b with neighbours := b.neighbours.set n x.value }, x.clamps⟩
    else ⟨b, 0⟩
  | .params =>
    let x := readAssocParams bs
    ⟨{ b with params := x.value }, x.clamps⟩

/-- R154: `count` entries, the first of them number `first`, are stored in turn. -/
def Bank.loadAll (b : Bank) (t : TableId) (first : Nat) : Nat → List Byte → Clamped Bank
  | 0, _ => ⟨b, 0⟩
  | count + 1, bs =>
    let one := b.load t first (bs.take t.entrySize)
    let rest := one.value.loadAll t (first + 1) count (bs.drop t.entrySize)
    ⟨rest.value, one.clamps + rest.clamps⟩

/-- R155: one entry as stored, in the loaded layout of its table. -/
def Bank.entryBytes (b : Bank) (t : TableId) (n : Nat) : List Byte :=
  match t with
  | .stations => if h : n < 64 then writeStationEntry b.stations[n] else []
  | .sets => if h : n < 8 then writeDetectorSet b.sets[n] else []
  | .neighbours => if h : n < 64 then writeNeighbourList b.neighbours[n] else []
  | .params => writeAssocParams b.params

/-! ## Unit settings (R151, R166) -/

/-- The notice-mask byte: bits 0 to 4; bits 5 to 7 are not read. -/
def readMask (n : Nat) : NoticeMask := ⟨n.testBit 0, n.testBit 1, n.testBit 2, n.testBit 3, n.testBit 4⟩

/-- R151: a retention code; any code but 0 KEEP and 1 RECYCLE is taken as KEEP. -/
def readRetention (n : Nat) : Retention × Nat :=
  if n = 0 then (.keep, 0) else if n = 1 then (.recycle, 0) else (.keep, 1)

/-- The code of a retention setting. -/
def Retention.code : Retention → Nat
  | .keep => 0
  | .recycle => 1

/-- R151: the settings as stored. -/
def readSettings (bs : List Byte) : Clamped Settings :=
  let fa := clampCode true (at8 bs 0)
  let fb := clampCode true (at8 bs 1)
  let retention := readRetention (at8 bs 3)
  let silence := clampTo 1 255 (at8 bs 4)
  let gap := clampTo 0 64 (at8 bs 5)
  ⟨{ forwarding := ⟨fa.1, fb.1⟩, mask := readMask (at8 bs 2), retention := retention.1,
     silence := silence.1, gap := gap.1 },
    fa.2 + fb.2 + retention.2 + silence.2 + gap.2⟩

/-- R166: the settings in the layout of WRITE SETTINGS. -/
def writeSettings (x : Settings) : List Byte :=
  [markByte x.forwarding.a, markByte x.forwarding.b,
    marksByte [x.mask.event, x.mask.station, x.mask.line, x.mask.config, x.mask.fault],
    byte x.retention.code, byte x.silence, byte x.gap]

/-! ## Completion codes (R154) -/

/-- DONE_CLAMPED when anything was clamped, and otherwise DONE. -/
def clampedCode (clamps : Nat) : Completion := if clamps = 0 then .done else .doneClamped

end Sys2Proof.Machine
end

