-- ==== Sys2Proof/Machine/Readout.lean ====
section
/-! DEFINITION. The readout unit (chapter 8): starting, staging and cancelling a readout. -/

namespace Sys2Proof.Machine

/-- The readout unit is replaced. -/
def State.setReadout (s : State) (r : Readout) : State := { s with readout := r }

/-- The staged DATA place is filled or emptied. -/
def State.setStaged (s : State) (d : Option DataFrame) : State :=
  { s with trunk := { s.trunk with staged := d } }

/-! ## Choosing entries (R127, R128) -/

/-- R127: the first entry that a selection covers. -/
def Selection.first (sel : Selection) (entries : List StationEntry) : Option StationEntry :=
  match sel with
  | .all => entries.head?
  | .one st => entries.find? fun e => decide (e.station = st)

/-- R128: the entry after the one of a station, in ascending station order. -/
def Selection.next (sel : Selection) (entries : List StationEntry) (st : Station) : Option StationEntry :=
  match sel with
  | .all => entries.find? fun e => decide (st.val < e.station.val)
  | .one _ => none

/-- R127: the readout turned to an entry of a section, or to none. An entry of copied count 0 is read
from the window's start (R128, log 17). Without a next entry the next index stays (log 29). -/
def Readout.turnTo (r : Readout) (c : CaptureSection) (e : Option StationEntry) : Readout :=
  match e with
  | some e =>
    { r with
      current := some e.station
      nextIndex := (c.firstCopied e).getD c.start
      remaining := e.copied }
  | none => { r with current := none, remaining := 0 }

/-- R127: an accepted FETCH starts the readout. With no current entry next index and remaining are 0
(log 29). -/
def State.startReadout (s : State) (p : Fin 32) (rec : Record) (sel : Selection) : State :=
  let fresh : Readout :=
    { streaming := true, record := some p, number := rec.number, selection := sel, current := none,
      nextIndex := 0, remaining := 0, endStaged := false, framesSent := 0, instantsSent := 0,
      overlap := false, cancel := false }
  (s.setRecord p (some { rec with state := .reading })).setReadout
    (match rec.capture with
      | some c => fresh.turnTo c (sel.first c.entries)
      | none => fresh)

/-! ## Building frames (R128) -/

/-- R128: the captured instants of offsets `o`, `o + 1`, ..., `n` of them, read from an entry's chain;
none when a position holds no block. -/
def SampleMemory.readRun (m : SampleMemory) (chain : List (Option Nat)) : Nat → Nat → Option (List BlockPlace)
  | _, 0 => some []
  | o, n + 1 =>
    match chainBlock chain o with
    | none => none
    | some b => (m.readRun chain (o + 1) n).map (m.blockPlace b (o % Config.blockPlaces) :: ·)

/-- R128: the number of instants of the next frame. -/
def Readout.frameCount (r : Readout) : Nat := min Config.frameInstants r.remaining

/-- R128: the readout after a frame of an entry has been built: next index and remaining move on, and
with remaining 0 the next entry is chosen. -/
def Readout.advance (r : Readout) (c : CaptureSection) (st : Station) : Readout :=
  let moved : Readout := { r with nextIndex := indexPlus r.nextIndex r.frameCount, remaining := r.remaining - r.frameCount }
  if moved.remaining = 0 then moved.turnTo c (r.selection.next c.entries st) else moved

/-- R128: the next CAPTURE DATA frame of an entry, none when an instant of it has no block. -/
def State.nextFrame (s : State) (c : CaptureSection) (e : StationEntry) : Option CaptureFrame :=
  (s.mem.readRun e.chain (c.offset s.readout.nextIndex) s.readout.frameCount).map fun places =>
    ⟨s.readout.number, e.station, e.startClamped, e.lineLost, e.testData, s.readout.nextIndex, places⟩

/-- The section and the entry of a station in the record that is read. -/
def State.readEntry (s : State) (st : Station) : Option (CaptureSection × StationEntry) :=
  match s.readout.record with
  | none => none
  | some p =>
    match s.record p with
    | none => none
    | some r =>
      match r.capture, r.entry st with
      | some c, some e => some (c, e)
      | _, _ => none

/-- R129: the READOUT END is placed. -/
def State.stageEnd (s : State) : State :=
  (s.setReadout { s.readout with endStaged := true }).setStaged (some .readoutEnd)

/-- R129: the next CAPTURE DATA frame is placed. -/
def State.stageCapture (s : State) (st : Station) : Out :=
  match s.readEntry st with
  | none => .fault .captureHole
  | some (c, e) =>
    match s.nextFrame c e with
    | none => .fault .captureHole
    | some f => .next ((s.setReadout (s.readout.advance c st)).setStaged (some (.capture f)))

/-- STAGE_DATA_FRAME (R129): possible while STREAMING, end staged clear and the place empty. -/
def execStageDataFrame (s : State) : Out :=
  if s.pins.rstn && s.readout.streaming && !s.readout.endStaged && s.trunk.staged.isNone then
    match s.readout.current with
    | some st => if s.readout.cancel then .next s.stageEnd else s.stageCapture st
    | none => .next s.stageEnd
  else .next s

/-! ## Cancelling (R132) -/

/-- R132: a STREAMING readout is cancelled: a staged CAPTURE DATA frame is withdrawn and the READOUT
END is staged; with the READOUT END already staged only CANCEL is set. Next index and remaining stay as they
stood (log 29). -/
def State.cancelReadout (s : State) : State :=
  if s.readout.endStaged then s.setReadout { s.readout with cancel := true }
  else (s.setReadout { s.readout with cancel := true, current := none }).stageEnd

/-! ## The arbiter's take (R129, R130) -/

/-- R129: the counts after the arbiter has taken a CAPTURE DATA frame. -/
def Readout.counted (r : Readout) (n : Nat) : Readout :=
  { r with framesSent := r.framesSent + 1, instantsSent := r.instantsSent + n }

/-- R130: the readout ends: its record returns to READY and the unit is IDLE. -/
def State.endReadout (s : State) : State :=
  let idle : Readout := { s.readout with streaming := false, record := none, current := none, endStaged := false }
  match s.readout.record with
  | none => s.setReadout idle
  | some p =>
    match s.record p with
    | some r => (s.setRecord p (some { r with state := .ready })).setReadout idle
    | none => s.setReadout idle

end Sys2Proof.Machine
end

