-- ==== Sys2Proof/Machine/Controller.lean ====
section
/-! DEFINITION. The unit controller's commands (chapter 10, and the command rules of chapters 2, 4, 8
and 9) and the switched reports. Each row takes the oldest command of the control receive buffer when
it is the row's own and the REPLY queue has a place (R148), judges it (R149) and answers it (R150). -/

namespace Sys2Proof.Machine

/-! ## IDENTIFY and READ STATUS (R163, R146) -/

/-- R163: the results of IDENTIFY. -/
def State.identity (s : State) : List Byte :=
  be16 Config.partCode ++ [byte Config.revision, byte s.unitAddress] ++ be16 Config.ringSlots ++
    be16 Config.poolBlocks ++ [64]

/-- IDENTIFY. -/
def execIdentify (s : State) : Out :=
  s.takeCommand (Command.hasCode 0x01) fun c t => t.withLength c 0 (t.answer c .done t.identity)

/-- R146, R166: the results of READ STATUS. -/
def State.statusBytes (s : State) : List Byte :=
  be16 (s.ctrl.flags.bits.foldr (fun b n => b.toNat + 2 * n) 0)

/-- R146: every flag is cleared. -/
def State.clearFlags (s : State) : State := { s with ctrl := { s.ctrl with flags := Flags.clear } }

/-- READ_STATUS. -/
def execReadStatus (s : State) : Out :=
  s.takeCommand (Command.hasCode 0x02) fun c t =>
    t.withLength c 0 (t.clearFlags.answer c .done t.statusBytes)

/-! ## Station ranges (R27, R58) -/

/-- R27, R58: a range first to last is valid when first ≤ last ≤ 63. -/
def rangeValid (first last : Nat) : Bool := decide (first ≤ last) && decide (last ≤ 63)

/-- A command of two parameter bytes that name a station range. -/
def State.onRange (s : State) (c : Command) (run : Nat → Nat → State) : State :=
  s.withLength c 2 (
    if rangeValid (at8 c.params 0) (at8 c.params 1) then run (at8 c.params 0) (at8 c.params 1)
    else s.answer c .noSuchTable [])

/-- R27: the oldest unread code of each station of a range is removed. -/
def State.removeUnread (s : State) (first last : Nat) : State :=
  s.mapStations fun i x =>
    if first ≤ i.val ∧ i.val ≤ last then { x with unread := x.unread.tail } else x

/-- R27: what a read of a range reports. -/
def State.rangeReport (s : State) (first last : Nat) : List Byte :=
  ((stationRange first last).map fun i => stationReport i (s.station i)).flatten

/-- READ_STATION_STATUS (R27). -/
def execReadStationStatus (s : State) : Out :=
  s.takeCommand (Command.hasCode 0x03) fun c t =>
    t.onRange c fun first last => (t.removeUnread first last).answer c .done (t.rangeReport first last)

/-- R58: the stations of a range are restarted. -/
def State.restartRange (s : State) (first last : Nat) : State :=
  s.mapStations fun i x => if first ≤ i.val ∧ i.val ≤ last then x.restarted else x

/-- RESTART_DETECTORS (R58). -/
def execRestartDetectors (s : State) : Out :=
  s.takeCommand (Command.hasCode 0x0B) fun c t =>
    t.onRange c fun first last => (t.restartRange first last).answer c .done []

/-! ## Unit settings (R151) -/

/-- R151: the settings are replaced. -/
def State.setSettings (s : State) (x : Settings) : State := { s with ctrl := { s.ctrl with settings := x } }

/-- WRITE_SETTINGS (R151). -/
def execWriteSettings (s : State) : Out :=
  s.takeCommand (Command.hasCode 0x04) fun c t =>
    t.withLength c 6 (
      let x := readSettings c.params
      (t.setSettings x.value).answer c (clampedCode x.clamps) (writeSettings x.value))

/-- READ_SETTINGS (R151). -/
def execReadSettings (s : State) : Out :=
  s.takeCommand (Command.hasCode 0x05) fun c t =>
    t.withLength c 0 (t.answer c .done (writeSettings t.ctrl.settings))

/-! ## Tables and banks (R154, R155, R156) -/

/-- The shadow bank is replaced. -/
def State.setShadow (s : State) (b : Bank) : State := { s with ctrl := { s.ctrl with shadow := b } }

/-- R154, steps 3 to 6: a LOAD TABLE whose table is known. -/
def State.loadInto (s : State) (c : Command) (t : TableId) : State :=
  let first := at8 c.params 1
  let count := at8 c.params 2
  if !t.rangeOk first count then s.answer c .noSuchTable []
  else if c.params.length ≠ 3 + count * t.entrySize then s.answer c .malformed []
  else if s.ctrl.scheduled.isSome then s.answer c .switchPending []
  else
    let loaded := s.ctrl.shadow.loadAll t first count (c.params.drop 3)
    (s.setShadow loaded.value).answer c (clampedCode loaded.clamps) []

/-- LOAD_TABLE (R154). -/
def execLoadTable (s : State) : Out :=
  s.takeCommand (Command.hasCode 0x06) fun c t =>
    if c.params.length < 3 then t.answer c .malformed []
    else match readTableId (at8 c.params 0) with
      | none => t.answer c .noSuchTable []
      | some table => t.loadInto c table

/-- Bank codes of READ TABLE: 0 ACTIVE, 1 SHADOW. -/
def readBankName (n : Nat) : Option BankName :=
  if n = 0 then some .active else if n = 1 then some .shadow else none

/-- R155: `count` entries as stored, the first of them number `first`. -/
def Bank.tableBytes (b : Bank) (t : TableId) (first count : Nat) : List Byte :=
  ((List.range count).map fun k => b.entryBytes t (first + k)).flatten

/-- R155: a READ TABLE of four parameter bytes. -/
def State.reportTable (s : State) (c : Command) : State :=
  match readBankName (at8 c.params 0), readTableId (at8 c.params 1) with
  | some bank, some table =>
    if table.rangeOk (at8 c.params 2) (at8 c.params 3) then
      s.answer c .done (c.params ++ (s.bankOf bank).tableBytes table (at8 c.params 2) (at8 c.params 3))
    else s.answer c .noSuchTable []
  | _, _ => s.answer c .noSuchTable []

/-- READ_TABLE (R155). -/
def execReadTable (s : State) : Out :=
  s.takeCommand (Command.hasCode 0x07) fun c t => t.withLength c 4 (t.reportTable c)

/-- COPY_BANK (R156). -/
def execCopyBank (s : State) : Out :=
  s.takeCommand (Command.hasCode 0x08) fun c t =>
    t.withLength c 0 (
      if t.ctrl.scheduled.isSome then t.answer c .switchPending []
      else (t.setShadow t.ctrl.active).answer c .done [])

/-! ## Bank switching (R157 to R160) -/

/-- R61: a line records the scheduled switch; a line whose live view is clear switches at once. -/
def State.scheduleLine (s : State) (l : Line) (p : SwitchPoint) : State :=
  let t := s.setBankLine l { s.bankLine l with switch := some p }
  if (s.bankLine l).live then t else t.switchIdleLine l

/-- R157: a switch is scheduled: pending, its marks clear, and passed to the associator and the
detector bank (R61, R96). -/
def State.schedule (s : State) (p : SwitchPoint) : State :=
  let t : State := { s with
    ctrl := { s.ctrl with scheduled := some p, marks := ⟨false, false, false⟩ }
    assoc := { s.assoc with switch := some p } }
  (t.scheduleLine .a p).scheduleLine .b p

/-- R157: mode codes: 0 INDEX with its switch index, 1 IMMEDIATE. -/
def readSwitchPoint (params : List Byte) : Option SwitchPoint :=
  if at8 params 0 = 0 then some (.atIndex (at32 params 1))
  else if at8 params 0 = 1 then some .immediate
  else none

/-- SWITCH_BANK (R157). -/
def execSwitchBank (s : State) : Out :=
  s.takeCommand (Command.hasCode 0x09) fun c t =>
    t.withLength c 5 (
      match readSwitchPoint c.params with
      | none => t.answer c .noSuchTable []
      | some p =>
        if t.ctrl.scheduled.isSome then t.answer c .switchPending []
        else (t.schedule p).answer c .done [])

/-- R159: whether a block has already made the pending switch, though its report may be on its way. -/
def State.someSwitched (s : State) : Bool :=
  decide ((s.bankLine .a).inUse = .shadow) || decide ((s.bankLine .b).inUse = .shadow) ||
    decide (s.assoc.inUse = .shadow)

/-- R159: some switched mark is set. -/
def SwitchedMarks.any (m : SwitchedMarks) : Bool := m.lineA || m.lineB || m.associator

/-- R159: the switch is withdrawn at the controller, the detector bank and the associator. -/
def State.withdraw (s : State) : State :=
  { s with
    ctrl := { s.ctrl with scheduled := none }
    assoc := { s.assoc with switch := none }
    bank := { s.bank with lines := ⟨{ s.bank.lines.a with switch := none }, { s.bank.lines.b with switch := none }⟩ } }

/-- CANCEL_SWITCH (R159). -/
def execCancelSwitch (s : State) : Out :=
  s.takeCommand (Command.hasCode 0x0A) fun c t =>
    t.withLength c 0 (
      if t.ctrl.scheduled.isNone || t.ctrl.marks.any || t.someSwitched then t.answer c .wrongState []
      else t.withdraw.answer c .done [])

/-- R158: a block's switched mark is set. -/
def SwitchedMarks.mark (m : SwitchedMarks) : SwitchBlock → SwitchedMarks
  | .lineA => { m with lineA := true }
  | .lineB => { m with lineB := true }
  | .associator => { m with associator := true }

/-- R160: the switch completes: banks exchanged, every bank in use names the active bank again,
generation raised, switch state cleared, CONFIG notice requested behind the unit controller's requests on
their way (R143). -/
def State.completeSwitch (s : State) : State :=
  let t : State := { s with
    ctrl := { s.ctrl with
      active := s.ctrl.shadow
      shadow := s.ctrl.active
      generation := s.ctrl.generation + 1
      scheduled := none
      marks := ⟨false, false, false⟩ }
    assoc := { s.assoc with inUse := .active }
    bank := { s.bank with lines :=
      ⟨{ s.bank.lines.a with inUse := .active }, { s.bank.lines.b with inUse := .active }⟩ } }
  t.lostFaultsArrive.request (.switchComplete t.ctrl.generation)

/-- R158: a report is taken: discarded when its switch was cancelled or none is pending; otherwise its
mark is set, and the third mark completes the switch. -/
def State.takeReport (s : State) (r : SwitchReport) : State :=
  if r.cancelled || s.ctrl.scheduled.isNone then s
  else
    let marks := s.ctrl.marks.mark r.block
    let t : State := { s with ctrl := { s.ctrl with marks := marks } }
    if marks.lineA && marks.lineB && marks.associator then t.completeSwitch else t

/-- The oldest report of a block and the other reports. -/
def takeReportOf (b : SwitchBlock) : List SwitchReport → Option (SwitchReport × List SwitchReport)
  | [] => none
  | r :: rest =>
    if r.block = b then some (r, rest)
    else (takeReportOf b rest).map fun x => (x.1, r :: x.2)

/-- SWITCHED_REPORT (R158): the oldest report of a block that is on its way reaches the controller. -/
def execSwitchedReport (b : SwitchBlock) (s : State) : Out :=
  s.whileReleased (match takeReportOf b s.ctrl.reports with
    | some (r, rest) => { s with ctrl := { s.ctrl with reports := rest } }.takeReport r
    | none => s)

/-! ## Events (R124, R125, R126, R132, R133) -/

/-- The non-FREE records, oldest first (R103). -/
def State.recordsByOrder (s : State) : List Record :=
  (allPlaces.filterMap s.record).foldr
    (fun r rs => rs.takeWhile (fun x => decide (x.order < r.order)) ++
      r :: rs.dropWhile (fun x => decide (x.order < r.order))) []

/-- R124, R166: what LIST EVENTS reports of one record. -/
def Record.listing (r : Record) : List Byte :=
  be16 r.number ++ [byte r.state.code, byte r.anchor.val] ++ be32 r.earliest.toNat ++
    [byte r.picks.length, byte r.status.code, byte r.entries.length]

/-- R124: the results of LIST EVENTS. -/
def State.eventList (s : State) : List Byte :=
  byte s.recordsByOrder.length :: (s.recordsByOrder.map Record.listing).flatten

/-- LIST_EVENTS (R124). -/
def execListEvents (s : State) : Out :=
  s.takeCommand (Command.hasCode 0x0C) fun c t => t.withLength c 0 (t.answer c .done t.eventList)

/-- R166: a pick record of READ EVENT. -/
def Pick.bytes (p : Pick) : List Byte :=
  byte p.station.val :: (be32 p.onset.toNat ++ be16 p.peak ++ [byte p.set.val, marksByte [p.clipped, p.filled]])

/-- R166: an entry summary of READ EVENT. -/
def CaptureSection.summary (c : CaptureSection) (e : StationEntry) : List Byte :=
  byte e.station.val :: (be32 ((c.firstCopied e).getD c.start).toNat ++ be16 e.copied ++ be16 e.filledCount ++
    [marksByte [e.startClamped, e.lineLost, e.testData, e.bulkDone, e.directDone],
      byte (chainBlocks e.chain).length])

/-- R166: the header of READ EVENT. -/
def Record.header (r : Record) : List Byte :=
  be16 r.number ++ [byte r.state.code, byte r.anchor.val] ++ be32 r.t0.toNat ++ be32 r.earliest.toNat ++
    be16 r.generation.toNat ++
    [marksByte [r.switchClosed, r.captureAbsent, r.captureDisabled], markByte r.capture.isSome] ++
    be32 ((r.capture.map CaptureSection.start).getD 0).toNat ++ be32 ((r.capture.map CaptureSection.stop).getD 0).toNat ++
    [byte r.entries.length, byte r.picks.length]

/-- R125, R166: the results of READ EVENT. -/
def Record.details (r : Record) : List Byte :=
  r.header ++ (r.picks.map Pick.bytes).flatten ++
    (match r.capture with
      | some c => (c.entries.map c.summary).flatten
      | none => [])

/-- READ_EVENT (R125). -/
def execReadEvent (s : State) : Out :=
  s.takeCommand (Command.hasCode 0x0D) fun c t =>
    t.withLength c 2 (
      match (t.findRecord (at16 c.params 0)).bind t.record with
      | some r => t.answer c .done r.details
      | none => t.answer c .noSuchEvent [])

/-- R166: a selection: station 0 to 63, or 0xFF for ALL. -/
def readSelection (n : Nat) : Option Selection :=
  if h : n < 64 then some (.one ⟨n, h⟩) else if n = 0xFF then some .all else none

/-- R126, steps 3 to 5: a FETCH of a record. -/
def State.fetchRecord (s : State) (c : Command) (p : Fin 32) (r : Record) (sel : Selection) : State :=
  if r.state ≠ .ready then s.answer c .wrongState []
  else if s.readout.streaming then s.setReadout { s.readout with overlap := true }
  else (s.startReadout p r sel).answer c .done []

/-- FETCH (R126). -/
def execFetch (s : State) : Out :=
  s.takeCommand (Command.hasCode 0x0E) fun c t =>
    t.withLength c 3 (
      match readSelection (at8 c.params 2) with
      | none => t.answer c .noSuchTable []
      | some sel =>
        match t.findRecord (at16 c.params 0) with
        | none => t.answer c .noSuchEvent []
        | some p =>
          match t.record p with
          | none => t.answer c .noSuchEvent []
          | some r => t.fetchRecord c p r sel)

/-- CANCEL_READOUT (R132): the DONE reply is queued before the READOUT END is staged. -/
def execCancelReadout (s : State) : Out :=
  s.takeCommand (Command.hasCode 0x0F) fun c t =>
    t.withLength c 0 (
      if t.readout.streaming then (t.answer c .done []).cancelReadout else t.answer c .wrongState [])

/-- R133: a READING record: its readout is cancelled, the record freed, and the readout's record none. -/
def State.releaseReading (s : State) (p : Fin 32) : State :=
  let t := s.cancelReadout.freeRecord p
  t.setReadout { t.readout with record := none }

/-- R133: RELEASE by the state of the record. -/
def State.releaseRecord (s : State) (c : Command) (p : Fin 32) (r : Record) : State :=
  match r.state with
  | .active => s.answer c .wrongState []
  | .ready => (s.freeRecord p).answer c .done []
  | .filling => (s.freeRecord p).answer c .done []
  | .reading => (s.releaseReading p).answer c .done []

/-- RELEASE (R133). -/
def execRelease (s : State) : Out :=
  s.takeCommand (Command.hasCode 0x10) fun c t =>
    t.withLength c 2 (
      match t.findRecord (at16 c.params 0) with
      | none => t.answer c .noSuchEvent []
      | some p =>
        match t.record p with
        | none => t.answer c .noSuchEvent []
        | some r => t.releaseRecord c p r)

/-! ## Unknown commands (R149) -/

/-- R166: the command codes 0x01 to 0x11 of Table 11.5; any other code names no command. -/
def Command.isUnknown (c : Command) : Bool := !(decide (1 ≤ c.code.toNat) && decide (c.code.toNat ≤ 0x11))

/-- UNKNOWN_COMMAND (R149). -/
def execUnknownCommand (s : State) : Out :=
  s.takeCommand Command.isUnknown fun c t => t.answer c .unknownCommand []

end Sys2Proof.Machine
end

