-- ==== Sys2Proof/Machine/LinePort.lean ====
section
/-! DEFINITION. The line ports (chapter 1): reception, forwarding, line states, input buffer, TEST
mark, and field commands. -/

namespace Sys2Proof.Machine

/-- R14: a LINE notice request, with the line state and the TEST mark as they stand. -/
def State.lineNotice (s : State) (l : Line) (cause : LineCause) (index : Option Index) : State :=
  s.request (.lineChange cause l (s.port l).state (s.port l).test index)

/-- R4: a frame's PASS offer. -/
def State.offerPass (s : State) (l : Line) (f : RxFrame) : State :=
  if s.ctrl.settings.forwarding.get l then
    if Config.maxPassPayload < f.payload.length ∨ Config.passPlaces ≤ s.trunk.pass.length then
      s.report .passDrop (byte (lineCode l))
    else { s with trunk := { s.trunk with pass := s.trunk.pass ++ [⟨l, frameBody f.kind f.payload⟩] } }
  else s

/-- R11: a line-leave. The input buffer and the pending overrun fill are cleared and the leave is
reported to the detector bank. -/
def State.lineLeave (s : State) (l : Line) : State :=
  (s.setPort l { s.port l with buffer := [], overrunFill := 0 }).setBankLine l
    { s.bankLine l with leaves := (s.bankLine l).leaves + 1 }

/-- R13: the TEST mark after a marker: BEGIN and ACTIVE set it, END, NONE and any other code clear it. -/
def testAfter (marker : Byte) : Bool := decide (marker = 1) || decide (marker = 2)

/-- R13, R14: a marker acts on the TEST mark, and a change requests a notice. -/
def State.actMarker (s : State) (l : Line) (f : SampleFrame) : State :=
  let s' := s.setPort l { s.port l with test := testAfter f.marker }
  if (s.port l).test = testAfter f.marker then s'
  else s'.lineNotice l (if testAfter f.marker then .testSet else .testCleared) (some f.index)

/-- R12: a frame handed on with a fill count is placed in the input buffer, or dropped from detection
when the buffer is full. -/
def State.bufferFrame (s : State) (l : Line) (f : SampleFrame) (fill : Nat) : State :=
  let p := s.port l
  if p.buffer.length < Config.inputPlaces then
    s.setPort l { p with
      buffer := p.buffer ++ [{ line := l, index := f.index, fill := fill, test := p.test, map := f.map, taken := 0 }]
      overrunFill := 0 }
  else (s.setPort l { p with overrunFill := fill + 1 }).report .lineOverrun (byte (lineCode l))

/-- The classes of Table 1.2. -/
inductive FrameClass where
  /-- Contiguous or gap, with the distance d. -/
  | handedOn (d : Nat)
  | beyond
  | backward
deriving DecidableEq, Repr

/-- R8: the class of a frame index against the expected index, with gap-fill limit g. A LIVE line
always has an expected index; without one the frame counts as beyond (log 16). -/
def classify (expected : Option Index) (g : Nat) (i : Index) : FrameClass :=
  match expected with
  | none => .beyond
  | some e =>
    if (i - e).toNat ≤ g then .handedOn (i - e).toNat
    else if (i - e).toNat ≤ 2147483648 then .beyond
    else .backward

/-- R5, R6, R9, R10: the line is in SYNC with this frame as run count 1. -/
def State.startSync (s : State) (l : Line) (i : Index) : State :=
  s.setPort l { s.port l with state := .sync, run := 1, backward := 0, expected := some (i + 1) }

/-- R5: an accepted SAMPLE frame in DOWN. -/
def State.frameInDown (s : State) (l : Line) (f : SampleFrame) : State :=
  (s.startSync l f.index).lineNotice l .firstFrame (some f.index)

/-- R6: an accepted SAMPLE frame in SYNC. -/
def State.frameInSync (s : State) (l : Line) (f : SampleFrame) : State :=
  let p := s.port l
  if p.expected = some f.index then
    if Config.syncRun ≤ p.run + 1 then
      (((s.setPort l { p with state := .live, run := p.run + 1, backward := 0, overrunFill := 0,
                              expected := some (f.index + 1) }).lineNotice l .runComplete
        (some f.index)).actMarker l f).bufferFrame l f 0
    else s.setPort l { p with run := p.run + 1, expected := some (f.index + 1) }
  else s.startSync l f.index

/-- R9, R10: an accepted SAMPLE frame in LIVE. The LINE notice of its marker (R13) is requested before the
LINE_OVERRUN report of the same frame (log 26). -/
def State.frameInLive (s : State) (l : Line) (f : SampleFrame) : State :=
  let p := s.port l
  match classify p.expected s.ctrl.settings.gap f.index with
  | .handedOn d =>
    ((s.setPort l { p with expected := some (f.index + 1), backward := 0, overrunFill := 0 }).actMarker
      l f).bufferFrame l f (d + p.overrunFill)
  | .beyond => ((s.lineLeave l).startSync l f.index).lineNotice l .gapExceeded (some f.index)
  | .backward =>
    if Config.backwardRun ≤ p.backward + 1 then
      ((s.lineLeave l).startSync l f.index).lineNotice l .backwardRun (some f.index)
    else s.setPort l { p with backward := p.backward + 1 }

/-- R7: each accepted SAMPLE frame restarts the silence timer with the length then set (R17). -/
def State.restartSilence (s : State) (l : Line) : State :=
  s.setPort l { s.port l with silence := some s.ctrl.settings.silence }

/-- An accepted SAMPLE frame meets the line-state rules. -/
def State.acceptSample (s : State) (l : Line) (f : SampleFrame) : State :=
  let s' := s.restartSilence l
  match (s.port l).state with
  | .down => s'.frameInDown l f
  | .sync => s'.frameInSync l f
  | .live => s'.frameInLive l f

/-- R2, R3: a frame with a well-formed envelope is treated by its KIND. The PASS offer comes before
the line-state rules (log 8). -/
def State.lineFrame (s : State) (l : Line) (f : RxFrame) : State :=
  if f.kind = 0x21#8 then
    match parseSample f.payload with
    | some sample => (s.offerPass l f).acceptSample l sample
    | none => s
  else if 0x20 ≤ f.kind.toNat ∧ f.kind.toNat ≤ 0x3F then s.offerPass l f
  else s

/-- LINE_FRAME_RECEIVED (R1): bytes arrive, and the receiver judges the next well-formed frame. -/
def execLineFrameReceived (l : Line) (bytes : List Byte) (s : State) : Out :=
  let found := hunt ((s.port l).rx ++ bytes)
  let s' := s.setPort l { s.port l with rx := found.2 }
  s.whileReleased (match found.1 with
    | some f => s'.lineFrame l f
    | none => s')

/-- SILENCE_TIMER_EXPIRY (R7): possible while the timer runs, which it does in SYNC and LIVE. -/
def execSilenceTimerExpiry (l : Line) (s : State) : Out :=
  let p := s.port l
  let down : LinePort → LinePort := fun q =>
    { q with state := .down, silence := none, expected := none, run := 0 }
  s.whileReleased (
    if p.silence.isNone then s
    else match p.state with
      | .down => s
      | .sync => (s.setPort l (down p)).lineNotice l .silence none
      | .live => ((s.lineLeave l).setPort l (down ((s.lineLeave l).port l))).lineNotice l .silence none)

/-- FIELD_COMMAND_TX_START (R16): an idle transmitter starts the oldest frame, which stays in the
queue until its last byte has been sent. -/
def execFieldCommandTxStart (l : Line) (s : State) : Out :=
  let p := s.port l
  s.whileReleased (
    match p.tx, p.fieldQueue with
    | none, f :: _ => s.setPort l { p with tx := some (envelope f.kind f.payload) }
    | _, _ => s)

/-- FIELD_COMMAND_TX_DONE (R16): the frame leaves the queue and the transmitter is idle. -/
def execFieldCommandTxDone (l : Line) (s : State) : Out :=
  let p := s.port l
  s.whileReleased (
    match p.tx with
    | some _ => s.setPort l { p with tx := none, fieldQueue := p.fieldQueue.tail }
    | none => s)

/-- R15: an inner frame from the trunk port is queued, or dropped with FIELD_DROP. -/
def State.queueField (s : State) (l : Line) (f : InnerFrame) : State :=
  let p := s.port l
  if p.fieldQueue.length < Config.fieldPlaces then s.setPort l { p with fieldQueue := p.fieldQueue ++ [f] }
  else s.report .fieldDrop (byte (lineCode l))

end Sys2Proof.Machine
end

