-- ==== Sys2Proof/Machine/Reset.lean ====
section
/-! DEFINITION. The three resets (R161, R162 and the reset tables of the chapters) and the pins. -/

namespace Sys2Proof.Machine

/-! ## RESET (R161) -/

/-- R65: the detector bank after RESET ENGINE. A line-leave that is reported and not yet performed is
kept, and performed afterwards (log 27). -/
def State.resetDetectors (s : State) : DetectorBank :=
  { stations := tabulate fun i =>
      (s.station i).engineReset (s.ctrl.active.station i).enable (s.bankLine (lineOf i)).live
        (s.bankLine (lineOf i)).lastTest
    lines := ⟨{ s.bank.lines.a with inUse := .active, switch := none },
      { s.bank.lines.b with inUse := .active, switch := none }⟩ }

/-- RESET ENGINE: each block's chapter states what it keeps (Table 10.5); reports on their way belong
to a cancelled switch from then on (R158). FAULT requests on their way stay so (log 10). -/
def State.engineReset (s : State) : State :=
  { s with
    bank := s.resetDetectors
    pickQueue := []
    assoc := Associator.reset
    channel := []
    capture := CaptureEngine.reset
    readout := Readout.reset
    trunk := { s.trunk with notice := [], staged := none }
    ctrl := { s.ctrl with
      flags := Flags.clear
      scheduled := none
      marks := ⟨false, false, false⟩
      reports := s.ctrl.reports.map fun r => { r with cancelled := true } } }

/-- RESET FULL: power-on values but for the pins, the unit address, the REPLY queue, the downlink frame
under reception, the uplink frame being sent (Table 9.4) and FAULT requests on their way (log 10). A
line-leave that is reported and not yet performed is dropped with the line's state (log 27), and so is a
switched report (log 7). -/
def State.fullReset (s : State) : State :=
  { State.reset with
    pins := s.pins
    unitAddress := s.unitAddress
    trunk := { Trunk.reset with rx := s.trunk.rx, reply := s.trunk.reply, tx := s.trunk.tx }
    ctrl := { Controller.reset with lostFaults := s.ctrl.lostFaults }
    pending := s.pending }

/-- The command is a RESET of a kind: 1 ENGINE, 2 FULL. -/
def Command.isReset (kind : Byte) (c : Command) : Bool := c.hasCode 0x11 && decide (c.params = [kind])

/-- RESET_ENGINE (R161): the DONE reply is queued, and the reset keeps the REPLY queue. -/
def execResetEngine (s : State) : Out :=
  s.takeCommand (Command.isReset 1) fun c t => (t.answer c .done []).engineReset

/-- RESET_FULL (R161). -/
def execResetFull (s : State) : Out :=
  s.takeCommand (Command.isReset 2) fun c t => (t.answer c .done []).fullReset

/-- The command is a RESET that names neither kind. -/
def Command.isBadReset (c : Command) : Bool := c.hasCode 0x11 && !c.isReset 1 && !c.isReset 2

/-- RESET (R149, R161): a wrong length is refused with MALFORMED, another kind with NO_SUCH_TABLE. -/
def execReset (s : State) : Out :=
  s.takeCommand Command.isBadReset fun c t => t.withLength c 1 (t.answer c .noSuchTable [])

/-! ## RSTn (R162) -/

/-- The power-on values of every block, with these pin levels and this unit address; no report and no
request stays on its way (log 7, log 10, log 27). -/
def State.powerOn (s : State) (pins : Pins) (unit : Nat) : State :=
  { State.reset with pins := pins, unitAddress := unit, pending := s.pending }

/-- RSTN_ASSERTED (R162): every piece of state takes its power-on value. The unit address has none
before the straps are latched, and stays until then (R137, log 12). -/
def execRstnAsserted (s : State) : Out :=
  .next (s.powerOn { s.pins with rstn := false } s.unitAddress)

/-- R137: the unit address that a strap value latches. -/
def latchAddress (straps : Nat) : Nat := if straps = 31 then 30 else straps

/-- RSTN_RELEASED (R162): the unit address is latched and all blocks begin from power-on state. Without
an assertion before it there is no release. -/
def execRstnReleased (straps : Nat) (s : State) : Out :=
  if straps < 32 then
    .next (if s.pins.rstn then s
      else s.powerOn { s.pins with rstn := true, ua := BitVec.ofNat 5 straps } (latchAddress straps))
  else .refused .illFormed

/-! ## TRDY (R141, R142) -/

/-- TRDY_ASSERTED: the pin's level; a frame starts with the arbiter's next choice. -/
def execTrdyAsserted (s : State) : Out := .next { s with pins := { s.pins with trdy := true } }

/-- TRDY_WITHDRAWN: the pin's level; a frame being sent is finished. -/
def execTrdyWithdrawn (s : State) : Out := .next { s with pins := { s.pins with trdy := false } }

end Sys2Proof.Machine
end

