-- ==== Sys2Proof/Machine/Trunk.lean ====
section
/-! DEFINITION. The trunk port (chapter 9): downlink reception and routing, the arbiter and the uplink
transmitter. -/

namespace Sys2Proof.Machine

/-! ## Downlink (R136 to R139) -/

/-- R138: a command is offered to the control receive buffer. -/
def State.offerCommand (s : State) (c : Command) : State :=
  if s.trunk.control.length < Config.controlPlaces then
    { s with trunk := { s.trunk with control := s.trunk.control ++ [c] } }
  else s.report .controlOverrun 0xFF

/-- R137: a UNIT COMMAND is judged by its length and address. -/
def State.unitCommand (s : State) (payload : List Byte) : State :=
  match payload with
  | address :: code :: tag :: params =>
    if address.toNat = s.unitAddress ∨ address.toNat = Config.groupAddress then
      s.offerCommand ⟨address, code, tag, params⟩
    else s
  | _ => s

/-- R139: a FIELD COMMAND is judged by its selector. With selector 3 Line Port A receives the inner frame first,
so its FIELD_DROP report is the first of the two (log 30). -/
def State.fieldCommand (s : State) (payload : List Byte) : State :=
  match payload with
  | selector :: kind :: inner =>
    if selector = 1#8 then s.queueField .a ⟨kind, inner⟩
    else if selector = 2#8 then s.queueField .b ⟨kind, inner⟩
    else if selector = 3#8 then (s.queueField .a ⟨kind, inner⟩).queueField .b ⟨kind, inner⟩
    else s
  | _ => s

/-- R136: a well-formed downlink frame is routed by its KIND. -/
def State.downlinkFrame (s : State) (f : RxFrame) : State :=
  if f.kind = 0x41#8 then s.unitCommand f.payload
  else if f.kind = 0x42#8 then s.fieldCommand f.payload
  else s

/-- DOWNLINK_FRAME_RECEIVED (R136): bytes arrive, and the receiver routes the next well-formed frame. -/
def execDownlinkFrameReceived (bytes : List Byte) (s : State) : Out :=
  let found := hunt (s.trunk.rx ++ bytes)
  let s' : State := { s with trunk := { s.trunk with rx := found.2 } }
  s.whileReleased (match found.1 with
    | some f => s'.downlinkFrame f
    | none => s')

/-! ## Uplink (R141, R142) -/

/-- R142: the transmitter sends a frame in a fresh envelope. -/
def State.transmit (s : State) (kind : Byte) (payload : List Byte) : State :=
  { s with trunk := { s.trunk with tx := some (envelope kind payload) } }

/-- R141: the oldest frame of the first class that holds one: PASS, REPLY, NOTICE, DATA. -/
def State.arbiterTake (s : State) : State :=
  match s.trunk.pass with
  | f :: rest => { s with trunk := { s.trunk with pass := rest } }.transmit 0x61 f.payload
  | [] =>
    match s.trunk.reply with
    | f :: rest => { s with trunk := { s.trunk with reply := rest } }.transmit 0x62 f.payload
    | [] =>
      match s.trunk.notice with
      | f :: rest => { s with trunk := { s.trunk with notice := rest } }.transmit 0x63 f.payload
      | [] =>
        match s.trunk.staged with
        | some (.capture f) =>
          ((s.setStaged none).setReadout (s.readout.counted f.instants.length)).transmit 0x64 f.payload
        | some .readoutEnd => ((s.setStaged none).endReadout).transmit 0x65 s.readout.endPayload
        | none => s

/-- ARBITER_CHOICE (R141): made when the transmitter is free and TRDY is asserted. -/
def execArbiterChoice (s : State) : Out :=
  s.whileReleased (if s.pins.trdy && s.trunk.tx.isNone then s.arbiterTake else s)

/-- UPLINK_TX_DONE (R142): the last byte has been sent and the transmitter is free. -/
def execUplinkTxDone (s : State) : Out :=
  s.whileReleased { s with trunk := { s.trunk with tx := none } }

end Sys2Proof.Machine
end

