-- ==== Sys2Proof/Machine/Dispatch.lean ====
section
/-! DEFINITION. Which meaning each command has: one arm per row of spec/opcode_table.json. -/

namespace Sys2Proof.Machine

def exec (i : Instr) (s : State) : Host.Outcome State Fault Refusal :=
  match i with
  | .lineFrameReceived line bytes => Sys2Proof.Machine.execLineFrameReceived line bytes s
  | .silenceTimerExpiry line => Sys2Proof.Machine.execSilenceTimerExpiry line s
  | .fieldCommandTxStart line => Sys2Proof.Machine.execFieldCommandTxStart line s
  | .fieldCommandTxDone line => Sys2Proof.Machine.execFieldCommandTxDone line s
  | .takeInstant => Sys2Proof.Machine.execTakeInstant s
  | .warmupEnd station => Sys2Proof.Machine.execWarmupEnd station s
  | .debounceComplete station => Sys2Proof.Machine.execDebounceComplete station s
  | .onMaxDuration station => Sys2Proof.Machine.execOnMaxDuration station s
  | .holdEnd station => Sys2Proof.Machine.execHoldEnd station s
  | .detectorLineLeave line => Sys2Proof.Machine.execDetectorLineLeave line s
  | .associatorTakePick => Sys2Proof.Machine.execAssociatorTakePick s
  | .associatorTakeLineMark => Sys2Proof.Machine.execAssociatorTakeLineMark s
  | .declareMessageTaken => Sys2Proof.Machine.execDeclareMessageTaken s
  | .bulkCopyRead place station => Sys2Proof.Machine.execBulkCopyRead place station s
  | .closeMessageTaken => Sys2Proof.Machine.execCloseMessageTaken s
  | .downlinkFrameReceived bytes => Sys2Proof.Machine.execDownlinkFrameReceived bytes s
  | .arbiterChoice => Sys2Proof.Machine.execArbiterChoice s
  | .uplinkTxDone => Sys2Proof.Machine.execUplinkTxDone s
  | .stageDataFrame => Sys2Proof.Machine.execStageDataFrame s
  | .identify => Sys2Proof.Machine.execIdentify s
  | .readStatus => Sys2Proof.Machine.execReadStatus s
  | .readStationStatus => Sys2Proof.Machine.execReadStationStatus s
  | .writeSettings => Sys2Proof.Machine.execWriteSettings s
  | .readSettings => Sys2Proof.Machine.execReadSettings s
  | .loadTable => Sys2Proof.Machine.execLoadTable s
  | .readTable => Sys2Proof.Machine.execReadTable s
  | .copyBank => Sys2Proof.Machine.execCopyBank s
  | .switchBank => Sys2Proof.Machine.execSwitchBank s
  | .cancelSwitch => Sys2Proof.Machine.execCancelSwitch s
  | .switchedReport block => Sys2Proof.Machine.execSwitchedReport block s
  | .restartDetectors => Sys2Proof.Machine.execRestartDetectors s
  | .listEvents => Sys2Proof.Machine.execListEvents s
  | .readEvent => Sys2Proof.Machine.execReadEvent s
  | .fetch => Sys2Proof.Machine.execFetch s
  | .cancelReadout => Sys2Proof.Machine.execCancelReadout s
  | .release => Sys2Proof.Machine.execRelease s
  | .unknownCommand => Sys2Proof.Machine.execUnknownCommand s
  | .resetEngine => Sys2Proof.Machine.execResetEngine s
  | .resetFull => Sys2Proof.Machine.execResetFull s
  | .rstnAsserted => Sys2Proof.Machine.execRstnAsserted s
  | .rstnReleased straps => Sys2Proof.Machine.execRstnReleased straps s
  | .trdyAsserted => Sys2Proof.Machine.execTrdyAsserted s
  | .trdyWithdrawn => Sys2Proof.Machine.execTrdyWithdrawn s
  | .reset => Sys2Proof.Machine.execReset s

end Sys2Proof.Machine
end

