-- ==== Sys2Proof/Machine/Step.lean ====
section
/-! DEFINITION. One step: the command at the front of the queue is run with the queue's rest; on an
empty queue a FAULT request of NOTICE_LOST on its way arrives, and otherwise the part idles (log 2, log 10). -/

namespace Sys2Proof.Machine

/-- The state without the command at the front of its queue. -/
def State.dropPending (s : State) : State := { s with pending := s.pending.tail }

/-- A step without a command: no block takes any event while RSTn is asserted (R162). -/
def State.idle (s : State) : State := if s.pins.rstn then s.lostFaultArrives else s

/-- One step of the part. -/
def step (s : State) : Host.Outcome State Fault Refusal :=
  match s.pending with
  | [] => .next s.idle
  | c :: _ => exec c s.dropPending

/-- The state with the command that a word spells put at the front of its queue; unchanged where the
word spells none (log 24). -/
def State.withFetchWord (s : State) (nbits w : Nat) : State :=
  match decodeTableWord nbits w with
  | some c => { s with pending := c :: s.pending }
  | none => s

end Sys2Proof.Machine
end

