-- ==== Sys2Proof/WellFormed.lean ====
section
/-! DEFINITION. Which commands name something that exists: stations 0 to 63 (Table 0.2), record
places 0 to 31 (R101), and strap values of five pins (Table 0.4). -/

namespace Sys2Proof

/-- A station number names a station. -/
def stationOk (n : Nat) : Bool := decide (n < 64)

/-- A place number names a place of the event table (R101). -/
def placeOk (n : Nat) : Bool := decide (n < 32)

/-- A value that the five UA straps can show (R137). -/
def strapsOk (n : Nat) : Bool := decide (n < 32)

/-- Every operand of the command names something that exists. -/
def Instr.wf : Instr → Bool
  | .lineFrameReceived _ _ => true
  | .silenceTimerExpiry _ => true
  | .fieldCommandTxStart _ => true
  | .fieldCommandTxDone _ => true
  | .takeInstant => true
  | .warmupEnd st => stationOk st
  | .debounceComplete st => stationOk st
  | .onMaxDuration st => stationOk st
  | .holdEnd st => stationOk st
  | .detectorLineLeave _ => true
  | .associatorTakePick => true
  | .associatorTakeLineMark => true
  | .declareMessageTaken => true
  | .bulkCopyRead place st => placeOk place && stationOk st
  | .closeMessageTaken => true
  | .downlinkFrameReceived _ => true
  | .arbiterChoice => true
  | .uplinkTxDone => true
  | .stageDataFrame => true
  | .identify => true
  | .readStatus => true
  | .readStationStatus => true
  | .writeSettings => true
  | .readSettings => true
  | .loadTable => true
  | .readTable => true
  | .copyBank => true
  | .switchBank => true
  | .cancelSwitch => true
  | .switchedReport _ => true
  | .restartDetectors => true
  | .listEvents => true
  | .readEvent => true
  | .fetch => true
  | .cancelReadout => true
  | .release => true
  | .unknownCommand => true
  | .resetEngine => true
  | .resetFull => true
  | .rstnAsserted => true
  | .rstnReleased straps => strapsOk straps
  | .trdyAsserted => true
  | .trdyWithdrawn => true
  | .reset => true

end Sys2Proof
end

