-- ==== Sys2Proof/Safety.lean ====
section
/-! DEFINITION. What a safe run is, and the invariants that the manual states of the whole part, in the
terms the obligations use. Each holds at State.reset and, by the obligations, after every step. -/

namespace Sys2Proof.Machine

/-! ## Outcomes -/

/-- The step goes on: it neither faults nor refuses. -/
def Out.goesOn (o : Out) : Prop := ∃ t, o = .next t

/-- A run is safe as long as each of its steps goes on. -/
def State.safeFor : Nat → State → Prop
  | 0, _ => True
  | n + 1, s => ∃ t, step s = .next t ∧ t.safeFor n

/-! ## Taking a recorder command (R148) -/

/-- R148: the unit controller can take this command: RSTn is released, the command is the oldest of the
control receive buffer, and the REPLY queue has a free place. -/
def State.canTake (s : State) (c : Command) : Prop :=
  s.pins.rstn = true ∧ s.trunk.control.head? = some c ∧ s.trunk.reply.length < 4

/-- R148, R150: a command taken and answered: it has left the control receive buffer, and its reply is
the last of the REPLY queue unless it came with the group address 31. -/
def State.answered (s : State) (c : Command) (completion : Completion) (results : List Byte) : State :=
  { s with trunk := { s.trunk with
      control := s.trunk.control.tail
      reply :=
        if c.address = 31 then s.trunk.reply
        else s.trunk.reply ++ [⟨s.unitAddress, c.code, c.tag, completion, results⟩] } }

/-- A power-on reset, or a RESET of kind ENGINE or FULL that the unit controller takes, leads to `t`. -/
def State.resetTo (s t : State) : Prop :=
  exec .rstnAsserted s = .next t ∨
    ∃ c, s.canTake c ∧ c.code = 0x11 ∧
      ((c.params = [1] ∧ exec .resetEngine s = .next t) ∨ (c.params = [2] ∧ exec .resetFull s = .next t))

/-! ## The line ports (R6, R9, R12) -/

/-- R9: each entry of an input buffer carries as its fill count the number of indices that lie strictly
between its index and the index of the entry before it. -/
def entriesFollow : List InputEntry → Prop
  | [] => True
  | [_] => True
  | e :: e' :: rest => e'.index = indexPlus (e.index + 1) e'.fill ∧ entriesFollow (e' :: rest)

/-- R6, R9, R12: outside LIVE the input buffer is empty; its entries follow one another; and the expected
index lies beyond the newest entry by the pending overrun fill. -/
def LinePort.sequenceOk (p : LinePort) : Prop :=
  (p.state ≠ .live → p.buffer = []) ∧ entriesFollow p.buffer ∧
    ∀ e x, p.buffer.getLast? = some e → p.expected = some x → x = indexPlus (e.index + 1) p.overrunFill

/-! ## The detector arithmetic (R39, R41) -/

/-- R39: the high-pass state of a component lies in its range. -/
def HighPass.inRange (hp : HighPass) : Prop :=
  -8388608 ≤ hp.xPrev ∧ hp.xPrev ≤ 8388607 ∧ -8388607 ≤ hp.hPrev ∧ hp.hPrev ≤ 8388607

/-- R39, R41: the high-pass state and the averages of a station lie in their ranges. -/
def StationState.inRange (x : StationState) : Prop :=
  x.hp1.inRange ∧ x.hp2.inRange ∧ x.hp3.inRange ∧ x.sta ≤ 824633720064 ∧ x.lta ≤ 824633720064

/-! ## Ranges of the tables and settings (R19, R33, R75, R78, R151) -/

/-- R19, R21: the weight of a station entry lies in its range, and at least one component is used. -/
def StationEntryCfg.inRange (x : StationEntryCfg) : Prop :=
  1 ≤ x.weight ∧ x.weight ≤ 3 ∧
    match x.mode with
    | .vertical => x.role1 = .z ∨ x.role2 = .z ∨ x.role3 = .z
    | .vector => x.role1 ≠ .off ∨ x.role2 ≠ .off ∨ x.role3 ≠ .off

/-- R33: the fields of a detector set lie in the ranges of Table 3.1, with l ≥ s + 3 and R_off ≤ R_on. -/
def DetectorSet.inRange (x : DetectorSet) : Prop :=
  x.k ≤ 65535 ∧ x.g ≤ 16 ∧ (2 ≤ x.s ∧ x.s ≤ 10) ∧ (6 ≤ x.l ∧ x.l ≤ 16) ∧ (16 ≤ x.rOn ∧ x.rOn ≤ 1023) ∧
    (8 ≤ x.rOff ∧ x.rOff ≤ 1023) ∧ x.d ≤ 255 ∧ x.m ≤ 65535 ∧ x.h ≤ 65535 ∧ x.f ≤ 65535 ∧
    x.s + 3 ≤ x.l ∧ x.rOff ≤ x.rOn

/-- R75: a neighbour list of at most 15 entries, none of them the owner, no station twice, and each moveout 1
to 16383. -/
def neighboursInRange (owner : Station) (xs : List Neighbour) : Prop :=
  xs.length ≤ 15 ∧ (xs.map Neighbour.station).Nodup ∧
    ∀ x ∈ xs, x.station ≠ owner ∧ 1 ≤ x.moveout ∧ x.moveout ≤ 16383

/-- R78: the association parameters lie in the ranges of Table 6.2. -/
def AssocParams.inRange (x : AssocParams) : Prop :=
  (2 ≤ x.quorum ∧ x.quorum ≤ 192) ∧ x.slack ≤ 4095 ∧ x.extLength ≤ 4095 ∧ x.extLimit ≤ 7 ∧
    (1 ≤ x.span ∧ x.span ≤ 65535) ∧ x.pre ≤ 4095 ∧ x.post ≤ 4096

/-- Every entry of every table of a bank lies in its range. -/
def Bank.inRange (b : Bank) : Prop :=
  (∀ i, (b.station i).inRange) ∧ (∀ n : Fin 8, (b.sets[n]).inRange) ∧
    (∀ i, neighboursInRange i (b.neighbourList i)) ∧ b.params.inRange

/-- R19, R33, R75, R78 of both banks, and R151 of the unit settings. -/
def State.tablesInRange (s : State) : Prop :=
  s.ctrl.active.inRange ∧ s.ctrl.shadow.inRange ∧
    (1 ≤ s.ctrl.settings.silence ∧ s.ctrl.settings.silence ≤ 255) ∧ s.ctrl.settings.gap ≤ 64

/-! ## Bounded places (R12, R15, R26, R71, R138, R140) -/

/-- A line port's input buffer and field-command queue hold at most 4 each (R12, R15). -/
def LinePort.bounded (p : LinePort) : Prop := p.buffer.length ≤ 4 ∧ p.fieldQueue.length ≤ 4

/-- Every place that the manual bounds holds no more than it can: input buffers and field-command
queues 4 (R12, R15), unread status queues 2 (R26), event channel 64 (R71), control receive buffer 4
(R138), PASS 8, REPLY 4, NOTICE 16 (R140). -/
def State.placesBounded (s : State) : Prop :=
  (s.port .a).bounded ∧ (s.port .b).bounded ∧ (∀ i, (s.station i).unread.length ≤ 2) ∧
    s.channel.length ≤ 64 ∧ s.trunk.control.length ≤ 4 ∧ s.trunk.pass.length ≤ 8 ∧
    s.trunk.reply.length ≤ 4 ∧ s.trunk.notice.length ≤ 16

/-! ## The pick queue (R69, R70) -/

/-- The last entry of a line in a queue. -/
def lastOf (q : List QueueEntry) (l : Line) : Option QueueEntry := (q.filter fun e => decide (e.line = l)).getLast?

/-- R69: the last entry of a line in the queue, when it has one, is a LINE MARK. -/
def endsInMark (q : List QueueEntry) (l : Line) : Prop :=
  ∀ e, lastOf q l = some e → e.isMarkOf l = true

/-- The number of lines that have an entry in the queue. -/
def linesPresent (q : List QueueEntry) : Nat :=
  (lastOf q .a).isSome.toNat + (lastOf q .b).isSome.toNat

/-- R69, R70: each line's last entry is a LINE MARK, and apart from those marks there are at most 254
entries. It follows that the queue holds at most 256 entries, and at most 254 PICKs. -/
def pickQueueOk (q : List QueueEntry) : Prop :=
  endsInMark q .a ∧ endsInMark q .b ∧ q.length ≤ 254 + linesPresent q

/-- An entry is a PICK. -/
def QueueEntry.isPick : QueueEntry → Bool
  | .pick _ => true
  | .mark _ => false

/-! ## Capture blocks (R110) -/

/-- The blocks in the chains of a record's station entries. -/
def Record.blocks (r : Record) : List Nat := (r.entries.map fun e => chainBlocks e.chain).flatten

/-- The blocks in the chains of all records that are not FREE. -/
def State.chainedBlocks (s : State) : List Nat := ((allPlaces.filterMap s.record).map Record.blocks).flatten

/-- R110: every block 0 to 1023 is either in the free list or in exactly one chain. -/
def State.blocksAccounted (s : State) : Prop :=
  List.Perm (s.capture.freeList ++ s.chainedBlocks) (List.range 1024)

/-! ## Completion of station entries (R118, R120) -/

/-- R118: an event that makes `f e` of the entry `e` completes it. -/
def completes (f : StationEntry → StationEntry) (e : StationEntry) : Bool := (f e).complete && !e.complete

/-- R118: a completed entry: the blocks that hold no copied instant have left its chain. -/
def CaptureSection.keptEntry (c : CaptureSection) (e : StationEntry) : StationEntry :=
  { e with chain := e.chain.zipIdx.map fun x => if c.keepsPosition e x.2 then x.1 else none }

/-- R118: the blocks that a completed entry returns, in chain order. -/
def CaptureSection.unusedBlocks (c : CaptureSection) (e : StationEntry) : List Nat :=
  chainBlocks ((e.chain.zipIdx.filter fun x => !c.keepsPosition e x.2).map Prod.fst)

/-- R118, R120: a record with capture section `c` after events that make `f e` of each entry `e`: the entries that
the events complete have lost their unused blocks, and a FILLING record whose last entry they complete is READY. -/
def Record.afterEvents (r : Record) (c : CaptureSection) (f : StationEntry → StationEntry) : Record :=
  { r with
    state :=
      if r.state = .filling ∧ (∃ e ∈ c.entries, completes f e = true) ∧ ∀ e ∈ c.entries, (f e).complete = true
      then .ready else r.state
    capture := some { c with entries := c.entries.map fun e => if completes f e then c.keptEntry (f e) else f e } }

/-- R110, R118: the blocks that such events return, station by station and for each station in ascending place of
the event table (log 9). -/
def State.blocksReturned (s : State) (stations : List Station) (f : CaptureSection → StationEntry → StationEntry) :
    List Nat :=
  stations.flatMap fun i => (List.finRange 32).flatMap fun p =>
    match s.record p with
    | none => []
    | some r =>
      match r.capture, r.entry i with
      | some c, some e => if completes (f c) e then c.unusedBlocks (f c e) else []
      | _, _ => []

/-! ## The copied run (R114) -/

/-- R114 of one entry: the bulk copy has read at most its range, and is done exactly when it has read all
of it; the run built so far ends at the slot read last; and the filled counts stay within the run. -/
def CaptureSection.runOk (c : CaptureSection) (e : StationEntry) : Prop :=
  e.bulkCount ≤ e.bulkRead ∧ e.bulkRead ≤ c.bulkLength e.boundary ∧
    (e.bulkDone = true ↔ e.bulkRead = c.bulkLength e.boundary) ∧
    (0 < e.bulkCount → e.bulkFirst = some (indexPlus c.start (e.bulkRead - e.bulkCount))) ∧
    e.bulkFilled ≤ e.bulkCount ∧ e.bulkFilled ≤ e.filledCount ∧
    e.filledCount - e.bulkFilled ≤ e.directCount

/-- R114: every station entry's run is contiguous. -/
def State.runsOk (s : State) : Prop :=
  ∀ p r c, s.record p = some r → r.capture = some c → ∀ e ∈ c.entries, c.runOk e

/-! ## The event table (R102 to R105, R120, R123) -/

/-- R105: the event numbers of the non-FREE records are nonzero, at most 65535 and distinct, and the
next event number is 1 to 65535. -/
def State.numbersOk (s : State) : Prop :=
  1 ≤ s.capture.nextNumber ∧ s.capture.nextNumber ≤ 65535 ∧
    (∀ p r, s.record p = some r → 1 ≤ r.number ∧ r.number ≤ 65535) ∧
    ∀ p q r r', s.record p = some r → s.record q = some r' → r.number = r'.number → p = q

/-- R103: the declaration orders of the non-FREE records are 0, 1, 2 and onward, without gaps: they are
distinct, and each lies below the number of those records. -/
def State.ordersOk (s : State) : Prop :=
  (∀ p r, s.record p = some r → r.order < s.recordCount) ∧
    ∀ p q r r', s.record p = some r → s.record q = some r' → r.order = r'.order → p = q

/-- R105: the event number that the next record takes: the first from the next event number on, 65535
followed by 1, that no non-FREE record holds. -/
def State.firstUnused (s : State) (n : Nat) : Prop :=
  ∃ k, k ≤ 32 ∧ n = (s.capture.nextNumber - 1 + k) % 65535 + 1 ∧
    (∀ j, j < k → ∃ p r, s.record p = some r ∧ r.number = (s.capture.nextNumber - 1 + j) % 65535 + 1) ∧
    ∀ p r, s.record p = some r → r.number ≠ n

/-- R103, R107: the state without the record `r` of place `p`: its blocks are at the tail of the free list, and
the declaration orders above its own are one lower. -/
def State.withoutRecord (s : State) (p : Fin 32) (r : Record) : State :=
  { s with capture := { s.capture with
      records := tabulate fun q =>
        if q = p then none
        else (s.record q).map fun x =>
          { x with order := (if r.order < x.order then x.order - 1 else x.order) }
      freeList := s.capture.freeList ++ r.blocks } }

/-- R106, R111: `r` at place `p` is the READY record of lowest declaration order. -/
def State.oldestReadyIs (s : State) (p : Fin 32) (r : Record) : Prop :=
  s.record p = some r ∧ r.state = .ready ∧
    ∀ q x, s.record q = some x → x.state = .ready → q ≠ p → r.order < x.order

/-- R106, step 1: a DECLARE obtains place `p` and finds the state `b`: the FREE place of lowest number; or, with
none FREE and retention RECYCLE, the place of the oldest READY record, which is freed and whose event number
is to be announced. -/
def State.obtains (s : State) (p : Fin 32) (b : State) (recycled : List Nat) : Prop :=
  (s.record p = none ∧ (∀ q, q < p → s.record q ≠ none) ∧ b = s ∧ recycled = []) ∨
    ((∀ q, s.record q ≠ none) ∧ s.ctrl.settings.retention = .recycle ∧
      ∃ r, s.oldestReadyIs p r ∧ b = s.withoutRecord p r ∧ recycled = [r.number])

/-- R104: a map entry that names a record names an ACTIVE record, and no two entries name one record. -/
def State.mapOk (s : State) : Prop :=
  (∀ (k : Fin 16) p, s.capture.map[k] = .record p → ∃ r, s.record p = some r ∧ r.state = .active) ∧
    ∀ (j k : Fin 16) p, s.capture.map[j] = .record p → s.capture.map[k] = .record p → j = k

/-- R123: a record is READING exactly while it is the record of a STREAMING readout. -/
def State.readingOk (s : State) : Prop :=
  (∀ p r, s.record p = some r → r.state = .reading → s.readout.streaming = true ∧ s.readout.record = some p) ∧
    ∀ p, s.readout.record = some p → s.readout.streaming = true ∧ ∃ r, s.record p = some r ∧ r.state = .reading

/-- R120: a record in READY or READING has every station entry complete. -/
def State.readyComplete (s : State) : Prop :=
  ∀ p r, s.record p = some r → (r.state = .ready ∨ r.state = .reading) → r.allComplete = true

/-- R101: the station entries of a record are of different stations, in ascending station order. -/
def State.entriesAscend (s : State) : Prop :=
  ∀ p r, s.record p = some r → (r.entries.map StationEntry.station).Pairwise (fun i j => i < j)

/-- R104, R120, R123 together: the states of the event records. -/
def State.recordStatesOk (s : State) : Prop := s.mapOk ∧ s.readingOk ∧ s.readyComplete

/-- R81, R101: no pick list of a candidate, of a message or of a record holds two picks of one station. -/
def picksDistinct (ps : List Pick) : Prop := (ps.map Pick.station).Nodup

/-- The pick list of a message of the event channel. -/
def Message.picks : Message → List Pick
  | .declare m => m.picks
  | .close m => m.picks

/-- R81, R101: pick lists hold at most one pick of each station. -/
def State.pickListsOk (s : State) : Prop :=
  (∀ k c, s.candidate k = some c → picksDistinct c.picks) ∧
    (∀ m, m ∈ s.channel → picksDistinct m.picks) ∧
    ∀ p r, s.record p = some r → picksDistinct r.picks

/-! ## The bank switch (R61, R97, R153, R158) -/

/-- The bank that a block has in use. -/
def State.bankInUse (s : State) : SwitchBlock → BankName
  | .lineA => (s.bankLine .a).inUse
  | .lineB => (s.bankLine .b).inUse
  | .associator => s.assoc.inUse

/-- The pending mark of a block. -/
def State.pendingSwitch (s : State) : SwitchBlock → Option SwitchPoint
  | .lineA => (s.bankLine .a).switch
  | .lineB => (s.bankLine .b).switch
  | .associator => s.assoc.switch

/-- The switched mark of a block. -/
def SwitchedMarks.get (m : SwitchedMarks) : SwitchBlock → Bool
  | .lineA => m.lineA
  | .lineB => m.lineB
  | .associator => m.associator

/-- The reports of a block that are on their way for a switch that has not been cancelled. -/
def State.liveReports (s : State) (b : SwitchBlock) : Nat :=
  s.ctrl.reports.countP fun r => decide (r.block = b) && !r.cancelled

/-- R61, R97, R153, R158, of one block: it has a pending mark only while a switch is pending and it has
not switched; it uses the shadow bank only while a switch is pending; and exactly while it uses the
shadow bank, it has either its switched mark set or one report on its way. -/
def State.blockSwitchOk (s : State) (b : SwitchBlock) : Prop :=
  ((s.pendingSwitch b).isSome = true → s.ctrl.scheduled.isSome = true ∧ s.bankInUse b = .active) ∧
    (s.bankInUse b = .shadow → s.ctrl.scheduled.isSome = true) ∧
    s.liveReports b + (s.ctrl.marks.get b).toNat = (if s.bankInUse b = .shadow then 1 else 0)

/-- The switch state of the three blocks. -/
def State.switchOk (s : State) : Prop := ∀ b, s.blockSwitchOk b

/-! ## Detector activity (R46, R47, R56) -/

/-- The station's entry in the bank that its line has in use. -/
def State.entryInUse (s : State) (i : Station) : StationEntryCfg :=
  (s.bankOf (s.bankLine (lineOf i)).inUse).station i

/-- R22, R46, R47 of one station: its detector is OFF exactly when it is not enabled in the bank its line
uses; and it is in WARMUP, ARMED, PENDING, ON or HOLD only while its line is LIVE without TEST and its
confirmed code is OK or CLIPPED. -/
def State.activityOk (s : State) (i : Station) : Prop :=
  ((s.station i).det = .off ↔ (s.entryInUse i).enable = false) ∧
    ((s.station i).det ≠ .off → (s.station i).det ≠ .suspended →
      (s.bankLine (lineOf i)).live = true ∧ (s.bankLine (lineOf i)).lastTest = false ∧
        detectionAllowed (s.station i).confirmed = true)

/-- R46, R47, together with the switch state on which the bank in use depends. -/
def State.detectorsOk (s : State) : Prop := s.switchOk ∧ ∀ i, s.activityOk i

end Sys2Proof.Machine
end

