-- ==== Sys2Proof/Certificates/Slice0/Obligations.lean ====
section
/-! DEFINITION. The statements for the provers. Each docstring names the rule of the manual that the
statement formalises; where a clause rests on a choice of the model, it names the log entry. -/

open Sys2Proof Sys2Proof.Machine

/-! ## The whole part -/

/-- Log 1, log 2, log 10 (the queue is the model's own): step runs the command at the front of the queue on
the state with the queue's rest; on an empty queue a FAULT request of NOTICE_LOST that is on its way
arrives while RSTn is released, and otherwise the part idles. -/
def Obligations.StepRunsFrontCommand : Prop :=
  (∀ (c : Instr) (rest : List Instr) (s : State), s.pending = c :: rest →
    step s = exec c { s with pending := rest }) ∧
    ∀ s : State, s.pending = [] →
      ((s.ctrl.lostFaults = [] ∨ s.pins.rstn = false) → step s = .next s) ∧
      (s.pins.rstn = true → s.ctrl.lostFaults ≠ [] → step s = .next s.lostFaultArrives)

/-- Log 1, log 19, log 20 (all the model's): a command is refused exactly when an operand of it names nothing
that exists, only STAGE_DATA_FRAME can fault, and only while a readout streams and has a current entry, and
no command touches the queue of the commands that wait. -/
def Obligations.OutcomesOfCommands : Prop :=
  ∀ (c : Instr) (s : State),
    (c.wf = false → exec c s = .refused .illFormed) ∧
      (c.wf = true → ∀ r, exec c s ≠ .refused r) ∧
      (∀ f, exec c s = .fault f →
        c = .stageDataFrame ∧ f = .captureHole ∧ s.readout.streaming = true ∧ s.readout.current.isSome = true) ∧
      ∀ t, exec c s = .next t → t.pending = s.pending

/-- R162: RSTN_ASSERTED gives every piece of state its power-on value; while RSTn is asserted no block
takes any event; RSTN_RELEASED latches the unit address and leaves every block at its power-on value. The
model's choices in these values: reports "switched" and FAULT requests on their way are dropped (log 7, log 10),
the contents of the capture blocks are cleared (log 13), the readout fields without a meaning while IDLE
hold event number 1, ALL, next index 0 and remaining 0 (log 15), and a line-leave not yet performed is dropped
(log 27). -/
def Obligations.ResetPinHoldsThePart : Prop :=
  ∀ s : State,
    (∃ t, exec .rstnAsserted s = .next t ∧ t.pins = { s.pins with rstn := false } ∧ t.pending = s.pending ∧
      t.ports = State.reset.ports ∧ t.bank = State.reset.bank ∧ t.mem = State.reset.mem ∧
      t.pickQueue = State.reset.pickQueue ∧ t.assoc = State.reset.assoc ∧ t.channel = State.reset.channel ∧
      t.capture = State.reset.capture ∧ t.readout = State.reset.readout ∧ t.trunk = State.reset.trunk ∧
      t.ctrl = State.reset.ctrl) ∧
    (s.pins.rstn = false → ∀ c : Instr, c.wf = true → c ≠ .trdyAsserted → c ≠ .trdyWithdrawn →
      c ≠ .rstnAsserted → (∀ u, c ≠ .rstnReleased u) → exec c s = .next s) ∧
    (s.pins.rstn = false → ∀ u, u < 32 → exec (.rstnReleased u) s = .next
      { State.reset with
        pins := { s.pins with rstn := true, ua := BitVec.ofNat 5 u }
        unitAddress := if u = 31 then 30 else u
        pending := s.pending })

/-- R74, R99, R122, R135, and R147 (section 9.6) for the unit status flags, the NOTICE queue and the staged
place: what each of the three resets leaves of the pick queue, the associator, the event channel, the
capture engine, the readout unit, those queues and the flags. -/
def Obligations.EveryResetClearsTheEngine : Prop :=
  ∀ s t : State, s.resetTo t →
    t.pickQueue = [] ∧ t.ctrl.flags = Flags.clear ∧ t.trunk.notice = [] ∧
      (∀ l, t.assoc.view.get l = ⟨false, none⟩) ∧ t.assoc.watermark = none ∧
      (∀ k, t.candidate k = none) ∧ t.assoc.openOrder = 0 ∧ t.assoc.inUse = .active ∧ t.assoc.switch = none ∧
      t.channel = [] ∧ (∀ p, t.record p = none) ∧ (∀ k : Fin 16, t.capture.map[k] = .empty) ∧
      t.capture.nextNumber = 1 ∧ t.capture.freeList = List.range 1024 ∧
      t.readout.streaming = false ∧ t.readout.record = none ∧ t.readout.current = none ∧
      t.readout.framesSent = 0 ∧ t.readout.instantsSent = 0 ∧ t.readout.overlap = false ∧
      t.readout.cancel = false ∧ t.readout.endStaged = false ∧ t.trunk.staged = none

/-- R161 with R18, R28, R32, R36, R65, R147, R152, R153. RESET ENGINE queues its reply, and then keeps the
line ports, the rings, the status confirmation, the settings, the banks and the REPLY queue, cancels a
pending switch, and sets each detector from its entry in the active bank. RESET FULL queues its reply and
gives every block its power-on values, but for the pins, the unit address, the REPLY queue, the downlink
frame under reception and the frame being sent. The model's choices in it: RESET ENGINE marks the switched
reports on their way and RESET FULL drops them (log 7), a FAULT request of NOTICE_LOST on its way stays so
(log 10), RESET ENGINE keeps the contents of the capture blocks and RESET FULL clears them (log 13), the readout
fields without a meaning while IDLE hold event number 1, ALL, next index 0 and remaining 0 after RESET FULL
(log 15), and a line-leave not yet performed is kept by RESET ENGINE and dropped by RESET FULL (log 27). -/
def Obligations.CommandResetsByBlock : Prop :=
  ∀ (s : State) (c : Command), s.canTake c → c.code = 0x11 →
    (c.params = [1] → ∃ t, exec .resetEngine s = .next t ∧
        t.pins = s.pins ∧ t.unitAddress = s.unitAddress ∧ t.ports = s.ports ∧ t.mem = s.mem ∧
        t.pending = s.pending ∧
        t.trunk = { (s.answered c .done []).trunk with notice := [], staged := none } ∧
        t.ctrl = { s.ctrl with
          flags := Flags.clear
          scheduled := none
          marks := ⟨false, false, false⟩
          reports := s.ctrl.reports.map fun r => { r with cancelled := true } } ∧
        (∀ l, t.bankLine l = { s.bankLine l with inUse := .active, switch := none }) ∧
        ∀ i, t.station i =
          { s.station i with
            det :=
              if (s.ctrl.active.station i).enable = false then .off
              else if (s.bankLine (lineOf i)).live = true ∧ (s.bankLine (lineOf i)).lastTest = false ∧
                  detectionAllowed (s.station i).confirmed = true then .warmup
              else .suspended
            warm := 0, debounce := 0, onCount := 0, hold := 0, detection := none }) ∧
    (c.params = [2] → exec .resetFull s = .next
        { State.reset with
          pins := s.pins
          unitAddress := s.unitAddress
          pending := s.pending
          ctrl := { Controller.reset with lostFaults := s.ctrl.lostFaults }
          trunk := { Trunk.reset with
            rx := s.trunk.rx, tx := s.trunk.tx, reply := (s.answered c .done []).trunk.reply } })

/-- The machine right after reset meets every invariant that the other statements say each step keeps. -/
def Obligations.ResetMeetsTheInvariants : Prop :=
  State.reset.placesBounded ∧ Memory.wf State.reset.mem = true ∧ (∀ l, (State.reset.port l).sequenceOk) ∧
    (∀ i, (State.reset.station i).inRange) ∧ pickQueueOk State.reset.pickQueue ∧ State.reset.pickListsOk ∧
    State.reset.blocksAccounted ∧ State.reset.runsOk ∧ State.reset.numbersOk ∧ State.reset.ordersOk ∧
    State.reset.recordStatesOk ∧ State.reset.entriesAscend ∧ State.reset.detectorsOk ∧ State.reset.tablesInRange

/-- R12, R15, R26, R71, R138, R140: no step overfills a bounded place. -/
def Obligations.PlacesStayBounded : Prop :=
  ∀ s t : State, s.placesBounded → step s = .next t → t.placesBounded

/-- The sample memory keeps its canonical form (the model's form of R29 and R110) through every step. -/
def Obligations.SampleMemoryStaysCanonical : Prop :=
  ∀ s t : State, Memory.wf s.mem = true → step s = .next t → Memory.wf t.mem = true

/-- R66: "precedes" is an order of which exactly one direction holds for two indices that are neither
equal nor 2^31 apart; the earliest of two is the first-named unless the second precedes it; the serial
distance is the smaller of the two differences mod 2^32, symmetric and at most 2^31. -/
def Obligations.SerialOrderOfIndices : Prop :=
  ∀ a b : Index,
    (precedes a b = true ↔ 1 ≤ (b.toNat + 4294967296 - a.toNat) % 4294967296 ∧
      (b.toNat + 4294967296 - a.toNat) % 4294967296 ≤ 2147483647) ∧
    (precedes a b = true → precedes b a = false) ∧
    ((precedes a b = false ∧ precedes b a = false) ↔
      a = b ∨ (b.toNat + 4294967296 - a.toNat) % 4294967296 = 2147483648) ∧
    (atOrAfter b a = true ↔ b = a ∨ precedes a b = true) ∧
    earliestOf a [b] = (if precedes b a = true then b else a) ∧
    serialDistance a b = min ((a.toNat + 4294967296 - b.toNat) % 4294967296)
      ((b.toNat + 4294967296 - a.toNat) % 4294967296) ∧
    serialDistance a b = serialDistance b a ∧ serialDistance a b ≤ 2147483648

/-! ## Line ports -/

/-- R1, R136, R164: whatever bytes without 0xC3 come first, the receiver finds the next frame that a
transmitter sent, whole, and the bytes after it; a start pattern with a LENGTH above 2047, and a frame whose
CHECK is not the CRC of KIND, LENGTH and payload, cost only the bytes of the start pattern, and the hunt
resumes after it. The envelope is that of Table 11.1, and the CRC is formed byte by byte, from 0xFFFF on. -/
def Obligations.ReceiverFindsSentFrames : Prop :=
  (∀ (kind : Byte) (payload : List Byte), envelope kind payload =
    0xC3 :: 0x3C :: kind :: be16 payload.length ++ payload ++ be16 (crc (kind :: be16 payload.length ++ payload)).toNat) ∧
  crc [] = 0xFFFF ∧
  (∀ (bytes : List Byte) (b : Byte),
    let shift : BitVec 16 → BitVec 16 := fun r => if r.msb then (r <<< 1) ^^^ 0x1021 else r <<< 1
    crc (bytes ++ [b]) =
      (List.range 8).foldl (fun r _ => shift r) (crc bytes ^^^ (b.setWidth 16 <<< 8))) ∧
  (∀ (noise rest payload : List Byte) (kind : Byte), (∀ b ∈ noise, b ≠ 0xC3) → payload.length ≤ 2047 →
    hunt (noise ++ (envelope kind payload ++ rest)) = (some ⟨kind, payload⟩, rest)) ∧
    (∀ (kind l1 l0 : Byte) (rest : List Byte), 2047 < l1.toNat * 256 + l0.toNat →
      hunt (0xC3 :: 0x3C :: kind :: l1 :: l0 :: rest) = hunt (kind :: l1 :: l0 :: rest)) ∧
    ∀ (kind l1 l0 c1 c0 : Byte) (payload rest : List Byte), payload.length = l1.toNat * 256 + l0.toNat →
      payload.length ≤ 2047 → c1.toNat * 256 + c0.toNat ≠ (crc (kind :: l1 :: l0 :: payload)).toNat →
      hunt (0xC3 :: 0x3C :: kind :: l1 :: l0 :: (payload ++ c1 :: c0 :: rest)) =
        hunt (kind :: l1 :: l0 :: (payload ++ c1 :: c0 :: rest))

/-- R2, and R4 for its PASS offer: a well-formed line frame, in however many portions its bytes arrive, is
treated by its KIND; a field reply touches no line port. A PASS frame carries the line and the frame from
KIND to CHECK. That the PASS offer of a SAMPLE frame comes before its line-state rules is the model's choice
(log 8), and so is the arrival in portions (log 3). -/
def Obligations.LineFramesTreatedByKind : Prop :=
  (∀ (s : State) (l : Line) (kind : Byte) (payload bytes : List Byte), s.pins.rstn = true →
    payload.length ≤ 2047 → (s.port l).rx ++ bytes = envelope kind payload →
    let heard := s.setPort l { s.port l with rx := [] }
    exec (.lineFrameReceived l bytes) s = .next
      (if kind = 0x21 then
        match parseSample payload with
        | some f => (heard.offerPass l ⟨kind, payload⟩).acceptSample l f
        | none => heard
      else if 0x20 ≤ kind.toNat ∧ kind.toNat ≤ 0x3F then heard.offerPass l ⟨kind, payload⟩
      else heard)) ∧
  ∀ (s : State) (l : Line) (kind : Byte) (payload : List Byte),
    (s.offerPass l ⟨kind, payload⟩).ports = s.ports ∧
    s.offerPass l ⟨kind, payload⟩ =
      (if s.ctrl.settings.forwarding.get l = false then s
      else if payload.length ≤ 2041 ∧ s.trunk.pass.length < 8 then
        { s with trunk := { s.trunk with pass := s.trunk.pass ++
          [⟨l, kind :: be16 payload.length ++ payload ++ be16 (crc (kind :: be16 payload.length ++ payload)).toNat⟩] } }
      else s.report .passDrop (byte (lineCode l)))

/-- R3: a SAMPLE frame is truncated when its slot count is 0, above 32, or does not fit its LENGTH; in an
accepted one, the place of a position is filled by the first slot that names it. R165: fields of more than one
byte are read most significant byte first, and a sample has three bytes. -/
def Obligations.FirstSlotFillsThePlace : Prop :=
  (∀ (bs : List Byte) (k : Nat),
    at8 bs k = (bs.getD k 0).toNat ∧ at16 bs k = 256 * at8 bs k + at8 bs (k + 1) ∧
    (at32 bs k).toNat = 65536 * at16 bs k + at16 bs (k + 2) ∧
    (atSamples bs k).c1.toNat = 256 * at16 bs k + at8 bs (k + 2) ∧
    (atSamples bs k).c2.toNat = 256 * at16 bs (k + 3) + at8 bs (k + 5) ∧
    (atSamples bs k).c3.toNat = 256 * at16 bs (k + 6) + at8 bs (k + 8)) ∧
  ∀ payload : List Byte,
    (parseSample payload = none ↔
      at8 payload 5 = 0 ∨ 32 < at8 payload 5 ∨ payload.length ≠ 6 + 11 * at8 payload 5) ∧
    ∀ f, parseSample payload = some f →
      f.index = at32 payload 0 ∧ f.marker = payload.getD 4 0 ∧
        ∀ q : Fin 32, f.map[q] =
          ((List.range (at8 payload 5)).find? fun k => decide (at8 payload (6 + 11 * k) = q.val)).map
            fun k => ⟨payload.getD (7 + 11 * k) 0, atSamples payload (8 + 11 * k)⟩

/-- R5 and R6: an accepted SAMPLE frame in DOWN and in SYNC, the fourth contiguous one of a run included,
which enters an empty input buffer. -/
def Obligations.FramesBeforeLive : Prop :=
  ∀ (s : State) (l : Line) (f : SampleFrame),
    ((s.port l).state = .down →
      s.acceptSample l f =
        (s.request (.lineChange .firstFrame l .sync (s.port l).test (some f.index))).setPort l
          { s.port l with
            state := .sync, run := 1, backward := 0, expected := some (f.index + 1)
            silence := some s.ctrl.settings.silence }) ∧
    ((s.port l).state = .sync → (s.port l).expected ≠ some f.index →
      s.acceptSample l f = s.setPort l
        { s.port l with
          run := 1, backward := 0, expected := some (f.index + 1), silence := some s.ctrl.settings.silence }) ∧
    ((s.port l).state = .sync → (s.port l).expected = some f.index → (s.port l).run < 3 →
      s.acceptSample l f = s.setPort l
        { s.port l with
          run := (s.port l).run + 1, expected := some (f.index + 1), silence := some s.ctrl.settings.silence }) ∧
    ((s.port l).state = .sync → (s.port l).expected = some f.index → (s.port l).run = 3 →
      (s.port l).buffer = [] →
      s.acceptSample l f =
        (s.requestAll (.lineChange .runComplete l .live (s.port l).test (some f.index) ::
          if (s.port l).test = testAfter f.marker then []
          else [.lineChange (if testAfter f.marker then .testSet else .testCleared) l .live
            (testAfter f.marker) (some f.index)])).setPort l
          { s.port l with
            state := .live, run := 4, backward := 0, overrunFill := 0, expected := some (f.index + 1)
            silence := some s.ctrl.settings.silence, test := testAfter f.marker
            buffer := [⟨l, f.index, 0, testAfter f.marker, f.map, 0⟩] })

/-- R8: the class of a frame index by its distance d from the expected index; it precedes the expected
index exactly when d lies in 2^31 + 1 to 2^32 − 1, and the repeat e − 1 is the case d = 2^32 − 1. -/
def Obligations.DistanceDecidesTheClass : Prop :=
  ∀ (e i : Index) (g : Nat), g ≤ 64 →
    classify (some e) g i =
      (if (i - e).toNat ≤ g then .handedOn (i - e).toNat
      else if (i - e).toNat ≤ 2147483648 then .beyond
      else .backward) ∧
    (precedes i e = true ↔ 2147483649 ≤ (i - e).toNat) ∧ (i = e - 1 ↔ (i - e).toNat = 4294967295)

/-- R9 to R13: an accepted SAMPLE frame in LIVE: handed on with its fill count into the input buffer, or
dropped from detection with LINE_OVERRUN; beyond; backward. A departure from LIVE empties the buffer and
is reported to the detector bank. The model's choices in it: the count of reported leaves (log 6), and that a
frame's TEST notice comes before its LINE_OVERRUN report (log 26). -/
def Obligations.FramesInLive : Prop :=
  ∀ (s : State) (l : Line) (f : SampleFrame) (e : Index), (s.port l).state = .live →
    (s.port l).expected = some e →
    ((f.index - e).toNat ≤ s.ctrl.settings.gap →
      s.acceptSample l f =
        (let noted := s.requestAll
          (if (s.port l).test = testAfter f.marker then []
          else [.lineChange (if testAfter f.marker then .testSet else .testCleared) l .live
            (testAfter f.marker) (some f.index)])
        let fill := (f.index - e).toNat + (s.port l).overrunFill
        let after : LinePort :=
          { s.port l with
            expected := some (f.index + 1), backward := 0, silence := some s.ctrl.settings.silence
            test := testAfter f.marker }
        if (s.port l).buffer.length < 4 then
          noted.setPort l { after with
            overrunFill := 0
            buffer := (s.port l).buffer ++ [⟨l, f.index, fill, testAfter f.marker, f.map, 0⟩] }
        else (noted.setPort l { after with overrunFill := fill + 1 }).report .lineOverrun (byte (lineCode l)))) ∧
    (s.ctrl.settings.gap < (f.index - e).toNat →
      ((f.index - e).toNat ≤ 2147483648 ∨ (s.port l).backward = 3) →
      s.acceptSample l f =
        ((s.request (.lineChange (if (f.index - e).toNat ≤ 2147483648 then .gapExceeded else .backwardRun) l
          .sync (s.port l).test (some f.index))).setPort l
          { s.port l with
            state := .sync, run := 1, backward := 0, expected := some (f.index + 1)
            silence := some s.ctrl.settings.silence, buffer := [], overrunFill := 0 }).setBankLine l
          { s.bankLine l with leaves := (s.bankLine l).leaves + 1 }) ∧
    (s.ctrl.settings.gap < (f.index - e).toNat → 2147483648 < (f.index - e).toNat → (s.port l).backward < 3 →
      s.acceptSample l f = s.setPort l
        { s.port l with backward := (s.port l).backward + 1, silence := some s.ctrl.settings.silence }) ∧
    (testAfter f.marker = true ↔ f.marker = 1 ∨ f.marker = 2)

/-- R9, R12: the fill count of an entry always equals the number of indices that lie strictly between its
index and the index of the entry before it, whatever was dropped by overrun; with it, a line that is not
LIVE holds no entry (R6). -/
def Obligations.FillCountsBridgeTheGaps : Prop :=
  ∀ s t : State, (∀ l, (s.port l).sequenceOk) → step s = .next t → ∀ l, (t.port l).sequenceOk

/-- R7 with R11 and R14: the silence timer expires in SYNC and in LIVE; in LIVE this is a line-leave. That
the expected index becomes none and the run count 0, where R7 says they no longer apply, is log 14; the count
of reported leaves is the model's (log 6). -/
def Obligations.SilenceTakesTheLineDown : Prop :=
  ∀ (s : State) (l : Line), s.pins.rstn = true → (s.port l).silence.isSome = true →
    ((s.port l).state = .sync → exec (.silenceTimerExpiry l) s = .next
      ((s.request (.lineChange .silence l .down (s.port l).test none)).setPort l
        { s.port l with state := .down, silence := none, expected := none, run := 0 })) ∧
    ((s.port l).state = .live → exec (.silenceTimerExpiry l) s = .next
      (((s.request (.lineChange .silence l .down (s.port l).test none)).setPort l
        { s.port l with
          state := .down, silence := none, expected := none, run := 0, buffer := [], overrunFill := 0 }).setBankLine l
        { s.bankLine l with leaves := (s.bankLine l).leaves + 1 }))

/-- R15, R16: an inner frame is queued, or dropped with FIELD_DROP; an idle transmitter starts the oldest
with a fresh envelope; the frame stays in the queue until its last byte has been sent. -/
def Obligations.FieldCommandsQueuedAndSent : Prop :=
  ∀ (s : State) (l : Line),
    (∀ f, s.queueField l f =
      (if (s.port l).fieldQueue.length < 4 then
        s.setPort l { s.port l with fieldQueue := (s.port l).fieldQueue ++ [f] }
      else s.report .fieldDrop (byte (lineCode l)))) ∧
    (s.pins.rstn = true →
      (∀ f rest, (s.port l).tx = none → (s.port l).fieldQueue = f :: rest →
        exec (.fieldCommandTxStart l) s = .next (s.setPort l
          { s.port l with tx := some (0xC3 :: 0x3C :: f.kind :: be16 f.payload.length ++ f.payload ++
              be16 (crc (f.kind :: be16 f.payload.length ++ f.payload)).toNat) })) ∧
      ((s.port l).tx.isSome = true →
        exec (.fieldCommandTxDone l) s = .next (s.setPort l
          { s.port l with tx := none, fieldQueue := (s.port l).fieldQueue.tail })))

/-! ## Detector bank -/

/-- R12, R59: which instant is taken; and the rows that name a detector transition take it when the
transition named is the one it makes (log 4, read from R37, R49 to R53 and R59 by inference). An instant carries
its entry's TEST mark; a filled instant has no map, so every place of it is absent, and the real one has the
entry's map, in which a station of the line has the place of its position. Taking a filled instant counts it and
keeps the entry; taking the real instant removes the oldest entry. A line with a reported leave not yet performed
offers no instant (log 6). -/
def Obligations.EarlierInstantTakenFirst : Prop :=
  (∀ (e : InputEntry) (l : Line), e.nextInstant l =
    { line := l, index := e.nextIndex, test := e.test, map := if e.taken < e.fill then none else some e.map }) ∧
  (∀ (n : Instant) (i : Station), n.slot i =
    match n.map with
    | none => none
    | some m => m[i.val % 32]'(Nat.mod_lt _ (by decide))) ∧
  (∀ i : Station, lineOf i = if i.val < 32 then .a else .b) ∧
  (∀ (s : State) (n : Instant) (e : InputEntry) (rest : List InputEntry), (s.port n.line).buffer = e :: rest →
    ((s.takeWhole n).port n.line).buffer =
      (if e.taken < e.fill then { e with taken := e.taken + 1 } :: rest else rest)) ∧
  (∀ s : State,
    let offered : Line → Option Instant := fun l =>
      if (s.bankLine l).leaves = 0 then (s.port l).buffer.head?.map (fun e => e.nextInstant l) else none
    s.chosen =
      match offered .a, offered .b with
      | some x, some y => some (if precedes y.index x.index then y else x)
      | some x, none => some x
      | none, y => y) ∧
  (∀ s : State, s.pins.rstn = true → exec .takeInstant s = .next
    (match s.chosen with
    | some n => s.takeWhole n
    | none => s)) ∧
  ∀ s : State, s.pins.rstn = true → (s.bankLine .a).leaves = 0 → (s.bankLine .b).leaves = 0 →
    ((s.port .a).buffer = [] → (s.port .b).buffer = [] → exec .takeInstant s = .next s) ∧
    (∀ e rest, (s.port .a).buffer = e :: rest → (s.port .b).buffer = [] →
      exec .takeInstant s = .next (s.takeWhole (e.nextInstant .a))) ∧
    (∀ e rest, (s.port .a).buffer = [] → (s.port .b).buffer = e :: rest →
      exec .takeInstant s = .next (s.takeWhole (e.nextInstant .b))) ∧
    (∀ e rest e' rest', (s.port .a).buffer = e :: rest → (s.port .b).buffer = e' :: rest' →
      exec .takeInstant s = .next (s.takeWhole
        (if precedes e'.nextIndex e.nextIndex then e'.nextInstant .b else e.nextInstant .a))) ∧
    (∀ e : InputEntry, e.nextIndex =
      (if e.taken < e.fill then indexPlus (indexMinus e.index e.fill) e.taken else e.index)) ∧
    ∀ (n : Instant) (i : Station), s.chosen = some n → lineOf i = n.line →
      ((s.flowOf n i).transition = .warmupEnd → exec (.warmupEnd i.val) s = .next (s.takeWhole n)) ∧
      ((s.flowOf n i).transition = .debounceComplete →
        exec (.debounceComplete i.val) s = .next (s.takeWhole n)) ∧
      ((s.flowOf n i).transition = .maxDuration → exec (.onMaxDuration i.val) s = .next (s.takeWhole n)) ∧
      ((s.flowOf n i).transition = .holdEnd → exec (.holdEnd i.val) s = .next (s.takeWhole n))

/-- R59, R60, R61, R68: an instant taken acts on the stations of its own line and on that line's state, and
leaves the other line, the associator, the event channel, the readout unit, the settings, the banks and the
command and uplink queues other than NOTICE alone. A line with a pending switch makes it with an immediate
switch's next instant, or with the first instant at or after the switch index: the whole instant is computed
under the shadow bank, and the switch is reported. The picks enter the pick queue in ascending station order,
each where at most 253 entries stand before it (R70), and the LINE MARK follows them. The instant requests, for each
station in ascending order, the STATION notice of a code that it confirms (R24) and then the EVENT READY notices
of its direct writes in ascending place (R116, R120; CompletionKeepsTheRun says what such an event does), and each
PICK refused reports PICK_OVERFLOW with its station (R70). The model's choices in it: the places in ascending
order (log 9), and that order of the requests of different blocks (log 26). -/
def Obligations.InstantActsOnItsLineOnly : Prop :=
  ∀ (s : State) (n : Instant),
    let line := s.bankLine n.line
    let switches : Bool := (match line.switch with
      | none => false
      | some .immediate => true
      | some (.atIndex p) => decide (n.index = p) || precedes p n.index)
    let old := s.bankOf line.inUse
    (∀ i, lineOf i = n.line → s.flowOf n i =
      (if switches then stationFlow n (some old) s.ctrl.shadow i (s.station i)
      else stationFlow n none old i (s.station i))) ∧
    (∀ i, lineOf i = n.line → (s.takeWhole n).station i = (s.flowOf n i).after) ∧
    (∀ i, lineOf i ≠ n.line → (s.takeWhole n).station i = s.station i) ∧
    (s.takeWhole n).bankLine n.line =
      { line with
        progress := some n.index, live := true, lastTest := n.test
        inUse := if switches then .shadow else line.inUse
        switch := if switches then none else line.switch } ∧
    (s.takeWhole n).port n.line = { s.port n.line with buffer := afterTake (s.port n.line).buffer } ∧
    (∀ l, l ≠ n.line → (s.takeWhole n).bankLine l = s.bankLine l ∧ (s.takeWhole n).port l = s.port l) ∧
    (∃ stations : List Station, (∀ i, i ∈ stations ↔ lineOf i = n.line) ∧ stations.Pairwise (fun i j => i < j) ∧
      (s.takeWhole n).pickQueue =
        placeMark ((stations.filterMap fun i => (s.flowOf n i).pick).foldl
          (fun q p => if q.length ≤ 253 then q ++ [QueueEntry.pick p] else q) s.pickQueue)
          ⟨n.line, true, some n.index, false⟩ ∧
      let confirmed : State → Station → State := fun u i =>
        match n.slot i with
        | none => u
        | some d =>
          if (s.station i).confirmed ≠ some (readStatusCode d.status) ∧
              (s.station i).candidate = some (readStatusCode d.status) then
            u.request (.statusChange i (readStatusCode d.status) (s.station i).confirmed n.index)
          else u
      let direct : State → Station → State := fun u i =>
        (List.finRange 32).foldl (fun u p =>
          match u.record p with
          | none => u
          | some r =>
            match r.capture, r.entry i with
            | some c, some e =>
              if c.directContains e n.index = true ∧ e.directDone = false then
                u.entryEvent p i fun x =>
                  { x with
                    directCount := x.directCount + 1
                    filledCount := x.filledCount + (if (n.slot i).isNone then 1 else 0)
                    testData := x.testData || n.test, directDone := decide (n.index = c.stop) }
              else u
            | _, _ => u) u
      let worked := stations.foldl (fun u i => direct (confirmed u i) i) s
      let posted := (stations.filterMap fun i => (s.flowOf n i).pick).foldl
        (fun (u : State) p =>
          if u.pickQueue.length ≤ 253 then { u with pickQueue := u.pickQueue ++ [QueueEntry.pick p] }
          else u.report .pickOverflow (byte p.station.val)) worked
      (s.takeWhole n).capture = posted.capture ∧
      (s.takeWhole n).trunk.notice = posted.trunk.notice ∧
      (s.takeWhole n).ctrl.flags = posted.ctrl.flags ∧
      (s.takeWhole n).ctrl.lostFaults = posted.ctrl.lostFaults) ∧
    (s.takeWhole n).pins = s.pins ∧ (s.takeWhole n).unitAddress = s.unitAddress ∧
    (s.takeWhole n).assoc = s.assoc ∧ (s.takeWhole n).channel = s.channel ∧
    (s.takeWhole n).readout = s.readout ∧
    (s.takeWhole n).trunk = { s.trunk with notice := (s.takeWhole n).trunk.notice } ∧
    (s.takeWhole n).ctrl =
      { s.ctrl with
        flags := (s.takeWhole n).ctrl.flags, lostFaults := (s.takeWhole n).ctrl.lostFaults
        reports := s.ctrl.reports ++
          (if switches then [⟨(match n.line with | .a => SwitchBlock.lineA | .b => .lineB), false⟩] else []) }

/-- R30: the ring slot of the instant's index holds, for every station of the line, the samples of its
place or its held sample with the filled mark set, and the held sample moves only with a present place;
every other slot of every ring holds what it held. The premise is the model's canonical form. -/
def Obligations.RingHoldsTheInstantTaken : Prop :=
  ∀ (s : State) (n : Instant), Memory.wf s.mem = true →
    (∀ i, lineOf i = n.line →
      (s.takeWhole n).mem.ringSlot i n.index =
        (match n.slot i with
        | some d => ⟨some n.index, false, d.samples⟩
        | none => ⟨some n.index, true, (s.station i).held⟩) ∧
      ((s.takeWhole n).station i).held =
        (match n.slot i with
        | some d => d.samples
        | none => (s.station i).held)) ∧
    ∀ (i : Station) (k : Index), (lineOf i ≠ n.line ∨ k.toNat % 4096 ≠ n.index.toNat % 4096) →
      (s.takeWhole n).mem.ringSlot i k = s.mem.ringSlot i k

/-- R22, R23, R24, R26: a status byte of 16 or more reads as 15; OK and CLIPPED alone allow detection; a
present slot's code is compared with the confirmed and the candidate code, and its samples are held; a code
is confirmed by a second present slot that carries it; the unread queue keeps the first change and the
latest. An instant requests, in ascending station order, one STATION notice for each code it confirms, with
the station, the code, the previous code and the index. The premises of that clause are that the class is on,
that there is room, and that nothing else of the instant requests a notice: no event record stands, and no
pick can be refused. -/
def Obligations.StatusCodesConfirmed : Prop :=
  (∀ b : Byte, (readStatusCode b).val = if b.toNat < 16 then b.toNat else 15) ∧
    detectionAllowed none = false ∧ (∀ c : StatusCode, detectionAllowed (some c) = true ↔ c.val ≤ 1) ∧
    (∀ (c : StatusCode) (x : StationState),
      (x.confirmed = some c → confirmCode c x = { x with candidate := none }) ∧
      (x.confirmed ≠ some c → x.candidate = some c → confirmCode c x =
        { x with confirmed := some c, candidate := none, unread := enterUnread x.unread c }) ∧
      (x.confirmed ≠ some c → x.candidate ≠ some c → confirmCode c x = { x with candidate := some c })) ∧
    (∀ x : StationState, receiveSlot none x = x) ∧
    (∀ (d : SlotData) (x : StationState),
      receiveSlot (some d) x = { confirmCode (readStatusCode d.status) x with held := d.samples }) ∧
    (∀ c c1 c2 : StatusCode,
      enterUnread [] c = [c] ∧ enterUnread [c1] c = [c1, c] ∧ enterUnread [c1, c2] c = [c1, c]) ∧
    ∀ (s : State) (n : Instant), (∀ p, s.record p = none) → s.pickQueue.length ≤ 222 →
      s.ctrl.settings.mask.station = true →
      let change : Station → Option NoticeFrame := fun i =>
        match n.slot i with
        | none => none
        | some d =>
          if (s.station i).confirmed ≠ some (readStatusCode d.status) ∧
              (s.station i).candidate = some (readStatusCode d.status) then
            some ⟨s.unitAddress, .station, 1,
              [byte i.val, byte (readStatusCode d.status).val,
                match (s.station i).confirmed with
                | some c => byte c.val
                | none => 0x80] ++ be32 n.index.toNat⟩
          else none
      ∃ stations : List Station, (∀ i, i ∈ stations ↔ lineOf i = n.line) ∧ stations.Pairwise (fun i j => i < j) ∧
        (s.trunk.notice.length + (stations.filterMap change).length ≤ 16 →
          (s.takeWhole n).trunk.notice = s.trunk.notice ++ stations.filterMap change)

/-- R22, R47, R48, R62: the status of a station's slot is judged first, then the conditions of activity,
then the detector works: a detector that is OFF stays OFF; where a condition fails it is SUSPENDED without a
pending detection and makes no pick; where they hold again it begins its warm-up afresh, and where they hold of a
detector at work it does its work of the instant (AveragesFollowTheEnergy and DetectorTransitions say which), with
its station's entry and detector set in the bank, the instant's index, and whether its place is absent. At a bank
switch the
continuity comparison of the station after its status has been judged comes first, and an equal entry and
set let the detector work as without a switch. The premises 6 ≤ l are Table 3.1's range, which
ArithmeticStaysInRange keeps of both banks. -/
def Obligations.ActivityJudgedEachInstant : Prop :=
  (∀ (n : Instant) (bank : Bank) (i : Station) (x : StationState),
    let received := receiveSlot (n.slot i) x
    let allowed := n.test = false ∧ (received.confirmed = some 0 ∨ received.confirmed = some 1)
    let flow := stationFlow n none bank i x
    let work : StationState → DetectorResult :=
      detectorWork ⟨i, bank.station i, bank.detectorSet i, n.index, (n.slot i).isNone⟩
    bank.detectorSet i = bank.sets[(bank.station i).set] ∧
    (x.det ≠ .off → x.det ≠ .suspended → allowed →
      flow.after = (work received).after ∧ flow.transition = (work received).transition ∧
        flow.pick = (work received).pick) ∧
    (x.det = .suspended → allowed →
      let begun : StationState := { received with det := .warmup, warm := 0, detection := none }
      flow.after = (work begun).after ∧ flow.transition = (work begun).transition ∧
        flow.pick = (work begun).pick) ∧
    (x.det = .off ∨ ¬ allowed → flow.transition = .noRun) ∧
    (x.det = .off → flow.after = received ∧ flow.pick = none) ∧
    (x.det ≠ .off → ¬ allowed → flow.pick = none ∧ flow.after =
      { received with det := .suspended, detection := (if x.det = .suspended then x.detection else none) }) ∧
    (x.det = .suspended → allowed → 6 ≤ (bank.detectorSet i).l →
      flow.after.det = .warmup ∧ flow.after.warm = 1 ∧ flow.after.detection = none ∧ flow.pick = none) ∧
    flow.after.confirmed = received.confirmed ∧ flow.after.held = received.held) ∧
  (∀ (n : Instant) (old new : Bank) (i : Station) (x : StationState),
    let received := receiveSlot (n.slot i) x
    let allowed := n.test = false ∧ (received.confirmed = some 0 ∨ received.confirmed = some 1)
    let same := old.station i = new.station i ∧ old.detectorSet i = new.detectorSet i
    let flow := stationFlow n (some old) new i x
    ((new.station i).enable = true → ¬ same → allowed →
      let begun := detectorWork ⟨i, new.station i, new.detectorSet i, n.index, (n.slot i).isNone⟩
        { received with det := .warmup, warm := 0, detection := none }
      flow.after = begun.after ∧ flow.transition = begun.transition ∧ flow.pick = begun.pick) ∧
    ((new.station i).enable = false →
      flow.after = { received with det := .off, detection := none } ∧ flow.pick = none) ∧
    ((new.station i).enable = true → same → flow = stationFlow n none new i x) ∧
    ((new.station i).enable = true → ¬ same → ¬ allowed →
      flow.after = { received with det := .suspended, detection := none } ∧ flow.pick = none) ∧
    ((new.station i).enable = true → ¬ same → allowed → 6 ≤ (new.detectorSet i).l →
      flow.after.det = .warmup ∧ flow.after.warm = 1 ∧ flow.after.detection = none ∧ flow.pick = none)) ∧
  ∀ (old new : Bank) (i : Station) (ok : Bool) (x : StationState),
    continuity old new i ok x =
      (if (new.station i).enable = false then { x with det := .off, detection := none }
      else if old.station i = new.station i ∧ old.detectorSet i = new.detectorSet i then x
      else if ok then { x with det := .warmup, warm := 0, detection := none }
      else { x with det := .suspended, detection := none })

/-- R49 to R53, with R43, R44 for the tests: the transitions that step 6 of R37 makes. `x` is the station
after the arithmetic of the instant, its LTA as it stood before the instant. -/
def Obligations.DetectorTransitions : Prop :=
  ∀ (inp : DetectorInput) (x : StationState),
    let l := max (max x.lta (256 * inp.set.f)) 1
    let r := min (16 * x.sta / l) 65535
    let onMet := inp.set.rOn * l ≤ 16 * x.sta
    let offMet := 16 * x.sta < inp.set.rOff * l
    let left := if inp.set.h = 0 then DetState.armed else DetState.hold
    let began : Detection := ⟨inp.index, r, decide (x.confirmed = some 1), inp.held⟩
    (x.det = .warmup → transitionStep inp x =
      (if 2 ^ inp.set.l ≤ x.warm then ⟨{ x with det := .armed, detection := none }, .warmupEnd, none⟩
      else ⟨x, .warming, none⟩)) ∧
    (x.det = .armed → ¬ onMet → transitionStep inp x = ⟨x, .stayArmed, none⟩) ∧
    (x.det = .armed → onMet → 0 < inp.set.d → transitionStep inp x =
      ⟨{ x with det := .pending, debounce := inp.set.d, detection := some began }, .onset, none⟩) ∧
    (x.det = .armed → onMet → inp.set.d = 0 → transitionStep inp x =
      ⟨{ x with det := .on, onCount := 0, detection := none }, .onsetPick,
        some ⟨inp.station, inp.index, r, inp.cfg.set, began.clipped, began.filled⟩⟩) ∧
    (x.det = .pending → ¬ onMet → transitionStep inp x =
      ⟨{ x with det := .armed, detection := none }, .debounceFailed, none⟩) ∧
    (∀ d, x.det = .pending → onMet → x.detection = some d →
      let grown : Detection :=
        ⟨d.onset, max d.peak r, d.clipped || decide (x.confirmed = some 1), d.filled || inp.held⟩
      (1 < x.debounce → transitionStep inp x =
        ⟨{ x with debounce := x.debounce - 1, detection := some grown }, .debouncing, none⟩) ∧
      (x.debounce = 1 → transitionStep inp x =
        ⟨{ x with det := .on, debounce := 0, onCount := 0, detection := none }, .debounceComplete,
          some ⟨inp.station, d.onset, grown.peak, inp.cfg.set, grown.clipped, grown.filled⟩⟩)) ∧
    (x.det = .on → offMet → transitionStep inp x =
      ⟨{ x with
          det := left, onCount := min (x.onCount + 1) 65535
          hold := if inp.set.h = 0 then x.hold else inp.set.h }, .offTestMet, none⟩) ∧
    (x.det = .on → ¬ offMet → 0 < inp.set.m → inp.set.m ≤ min (x.onCount + 1) 65535 → transitionStep inp x =
      ⟨{ x with
          det := left, onCount := min (x.onCount + 1) 65535
          hold := if inp.set.h = 0 then x.hold else inp.set.h }, .maxDuration, none⟩) ∧
    (x.det = .on → ¬ offMet → (inp.set.m = 0 ∨ min (x.onCount + 1) 65535 < inp.set.m) → transitionStep inp x =
      ⟨{ x with onCount := min (x.onCount + 1) 65535 }, .stayOn, none⟩) ∧
    (x.det = .hold → 1 < x.hold → transitionStep inp x = ⟨{ x with hold := x.hold - 1 }, .holding, none⟩) ∧
    (x.det = .hold → x.hold = 1 → transitionStep inp x =
      ⟨{ x with det := .armed, hold := 0 }, .holdEnd, none⟩)

/-- R39, R41: every high-pass value lies within −8,388,607 to 8,388,607, and every STA and LTA within 0 to
824,633,720,064, through every step. R19, R20, R21, R33, R34, R75, R77, R78, R79, R151: through every step every
entry of every table of both banks lies in its range (a used component for each station, l ≥ s + 3 and
R_off ≤ R_on in each detector set, no owner and no station twice in a neighbour list), and so do the silence
timeout and the gap-fill limit. -/
def Obligations.ArithmeticStaysInRange : Prop :=
  (∀ s t : State, (∀ i, (s.station i).inRange) → step s = .next t → ∀ i, (t.station i).inRange) ∧
    ∀ s t : State, s.tablesInRange → step s = .next t → t.tablesInRange

/-- R21 and R37 to R42. An average moves toward E by floor((E − A) / 2^a) and never past it; by the transition
made, the LTA is updated in that way, left unchanged, or set to the STA; the shift at warm-up instant n is the
smaller of the set's and floor(log2 n). A detector that works at an instant raises its warm-up count in WARMUP,
seeds the high-pass state of each used component at n = 1, filters it, forms its energy, updates the STA with
the sum, makes its transition, and then treats the LTA. -/
def Obligations.AveragesFollowTheEnergy : Prop :=
  (∀ acc e shift : Nat,
    ((averageStep acc e shift : Nat) : Int) = (acc : Int) + ((e : Int) - (acc : Int)) / 2 ^ shift ∧
    (acc ≤ e → acc ≤ averageStep acc e shift ∧ averageStep acc e shift ≤ e) ∧
    (e ≤ acc → e ≤ averageStep acc e shift ∧ averageStep acc e shift ≤ acc) ∧
    averageStep acc e 0 = e) ∧
  (∀ (t : Transition) (e b : Nat) (x : StationState),
    ltaStep t e b x =
      { x with
        lta := (if t = .maxDuration then x.sta
          else if t = .onset ∨ t = .onsetPick ∨ t = .debouncing ∨ t = .debounceComplete ∨ t = .stayOn ∨
              t = .noRun then x.lta
          else averageStep x.lta e b) }) ∧
  (∀ full n : Nat, 0 < n →
    warmupShift full n ≤ full ∧ 2 ^ warmupShift full n ≤ n ∧
      (warmupShift full n = full ∨ n < 2 ^ (warmupShift full n + 1))) ∧
  ∀ (inp : DetectorInput) (x : StationState), x.det ≠ .off → x.det ≠ .suspended →
    let n := if x.det = .warmup then x.warm + 1 else x.warm
    let used : Role → Bool := fun r =>
      match inp.cfg.mode with
      | .vertical => decide (r = .z)
      | .vector => decide (r ≠ .off)
    let before : Sample → HighPass → HighPass := fun v hp =>
      if x.det = .warmup ∧ n = 1 then ⟨v.toInt, 0⟩ else hp
    let value : Sample → HighPass → Int := fun v hp =>
      max (-8388607) (min 8388607
        (v.toInt - (before v hp).xPrev + (inp.set.k : Int) * (before v hp).hPrev / 65536))
    let next : Role → Sample → HighPass → HighPass := fun r v hp =>
      if used r then ⟨v.toInt, value v hp⟩ else hp
    let energy : Role → Sample → HighPass → Nat := fun r v hp =>
      if used r then min ((value v hp).natAbs ^ 2 / 2 ^ inp.set.g) 1073741823 else 0
    let e := 256 * (energy inp.cfg.role1 x.held.c1 x.hp1 + energy inp.cfg.role2 x.held.c2 x.hp2 +
      energy inp.cfg.role3 x.held.c3 x.hp3)
    let shift : Nat → Nat := fun full => if x.det = .warmup then warmupShift full n else full
    let worked : StationState :=
      { x with
        warm := n
        hp1 := next inp.cfg.role1 x.held.c1 x.hp1
        hp2 := next inp.cfg.role2 x.held.c2 x.hp2
        hp3 := next inp.cfg.role3 x.held.c3 x.hp3
        sta := averageStep x.sta e (shift inp.set.s) }
    let t := transitionStep inp worked
    detectorWork inp x = { t with after := ltaStep t.transition e (shift inp.set.l) t.after }

/-- R57 with R25, R61, R62 and R117: a reported line-leave makes the codes of the line's stations UNKNOWN,
suspends their detectors, makes a pending switch under the conditions of a line that is not LIVE, ends their
direct writes with LINE_LOST and posts a LINE MARK with live = no and restart set. An entry so ended keeps its
counts and its run; where its bulk copy is done it is complete, returns its unused blocks (R118), and may make its
record READY with EVENT READY (R120). Every other entry, of the other line or with its direct range ended, keeps
its fields, and nothing else of a record changes. The model's choices in it: the count of reported leaves (log 6),
and the records of one station in ascending place (log 9). The premise on records is that an event's entries are
of different stations (R101), which EventTableStaysConsistent keeps. -/
def Obligations.LineLeaveSuspendsTheLine : Prop :=
  ∀ (s : State) (l : Line), s.pins.rstn = true → 0 < (s.bankLine l).leaves →
    (∀ p r, s.record p = some r → (r.entries.map StationEntry.station).Nodup) →
    let line := s.bankLine l
    let switches := line.switch.isSome
    let old := s.bankOf line.inUse
    ∃ t, exec (.detectorLineLeave l) s = .next t ∧
      (∀ i, lineOf i = l →
        let left : StationState :=
          { s.station i with
            confirmed := none, candidate := none
            det := if (s.station i).det = .off then .off else .suspended
            detection :=
              if (s.station i).det = .off ∨ (s.station i).det = .suspended then (s.station i).detection
              else none }
        t.station i =
          if switches = false then left
          else if (s.ctrl.shadow.station i).enable = false then { left with det := .off, detection := none }
          else if old.station i = s.ctrl.shadow.station i ∧
              old.detectorSet i = s.ctrl.shadow.detectorSet i then left
          else { left with det := .suspended, detection := none }) ∧
      (∀ i, lineOf i ≠ l → t.station i = s.station i) ∧
      t.bankLine l =
        { line with
          live := false, leaves := line.leaves - 1
          inUse := if switches then .shadow else line.inUse
          switch := none } ∧
      (∀ m, m ≠ l → t.bankLine m = s.bankLine m) ∧
      t.pickQueue = placeMark s.pickQueue ⟨l, false, line.progress, true⟩ ∧
      (∀ p, s.record p = none → t.record p = none) ∧
      (∀ p r, s.record p = some r → r.capture = none → t.record p = some r) ∧
      (∀ p r c, s.record p = some r → r.capture = some c → t.record p = some (r.afterEvents c fun e =>
        if lineOf e.station = l ∧ e.directDone = false then { e with directDone := true, lineLost := true }
        else e)) ∧
      t.capture.map = s.capture.map ∧ t.capture.nextNumber = s.capture.nextNumber ∧
      (∃ stations : List Station, (∀ i, i ∈ stations ↔ lineOf i = l) ∧ stations.Pairwise (fun i j => i < j) ∧
        let ended : StationEntry → StationEntry := fun e =>
          if e.directDone then e else { e with directDone := true, lineLost := true }
        let told := stations.foldl
          (fun u i => (List.finRange 32).foldl (fun (u : State) p => u.entryEvent p i ended) u) s
        t.capture.freeList = s.capture.freeList ++ s.blocksReturned stations (fun _ => ended) ∧
        t.trunk.notice = told.trunk.notice ∧ t.ctrl.flags = told.ctrl.flags ∧
        t.ctrl.lostFaults = told.ctrl.lostFaults) ∧
      t.pins = s.pins ∧ t.unitAddress = s.unitAddress ∧
      t.trunk = { s.trunk with notice := t.trunk.notice } ∧
      t.ctrl =
        { s.ctrl with
          flags := t.ctrl.flags, lostFaults := t.ctrl.lostFaults
          reports := s.ctrl.reports ++
            (if switches then [⟨(match l with | .a => SwitchBlock.lineA | .b => .lineB), false⟩] else []) } ∧
      t.mem = s.mem ∧ t.ports = s.ports ∧ t.assoc = s.assoc ∧ t.channel = s.channel ∧ t.readout = s.readout

/-- R22, R46, R47, R56: a detector is OFF exactly while its station is not enabled in the bank its line uses,
and in WARMUP, ARMED, PENDING, ON or HOLD only while its line is LIVE without TEST and its confirmed code is
OK or CLIPPED; so a station is available only then. R56: a station is available exactly while its detector is in
ARMED, PENDING, ON or HOLD. The switch state is part of the invariant, since it says
which bank a line uses. -/
def Obligations.DetectorsActiveOnlyWhenAllowed : Prop :=
  (∀ s t : State, s.detectorsOk → step s = .next t → t.detectorsOk) ∧
    ∀ (s : State) (i : Station), s.available i = true ↔
      (s.station i).det = .armed ∨ (s.station i).det = .pending ∨ (s.station i).det = .on ∨ (s.station i).det = .hold

/-! ## Pick queue -/

/-- R70: a PICK is admitted at 253 entries or fewer and is otherwise lost with PICK_OVERFLOW; a LINE MARK is
never refused; and through every step the queue keeps the form from which it follows that it never holds more
than 256 entries, nor more than 254 PICK entries. -/
def Obligations.PickQueueNeverOverflows : Prop :=
  (∀ (s : State) (p : Pick), s.postPick p =
    (if s.pickQueue.length ≤ 253 then { s with pickQueue := s.pickQueue ++ [.pick p] }
    else s.report .pickOverflow (byte p.station.val))) ∧
    (∀ (q : List QueueEntry) (m : LineMark), ∃ r, QueueEntry.mark ⟨m.line, m.live, m.progress, r⟩ ∈ placeMark q m) ∧
    (∀ s t : State, pickQueueOk s.pickQueue → step s = .next t → pickQueueOk t.pickQueue) ∧
    ∀ q, pickQueueOk q → q.length ≤ 256 ∧ q.countP QueueEntry.isPick ≤ 254

/-- R69: a LINE MARK posted is coalesced into the line's open mark, which keeps its place, and is appended
when the line's last entry is a PICK or the line has no entry; PICKs of the other line do not matter. -/
def Obligations.LineMarkCoalesces : Prop :=
  ∀ (q : List QueueEntry) (m : LineMark),
    (∀ before after old, q = before ++ .mark old :: after → old.line = m.line →
      (∀ e ∈ after, e.line ≠ m.line) →
      placeMark q m = before ++ .mark ⟨m.line, m.live, m.progress, old.restart || m.restart⟩ :: after) ∧
    ((∀ e ∈ q, e.line ≠ m.line) → placeMark q m = q ++ [.mark m]) ∧
    (∀ before after p, q = before ++ .pick p :: after → lineOf p.station = m.line →
      (∀ e ∈ after, e.line ≠ m.line) → placeMark q m = q ++ [.mark m])

/-! ## Associator -/

/-- R84: when a candidate admits a pick of station j with onset t. The moveout of a station in a list is that of
the one entry of the list that names the station, and a station that no entry names has none. -/
def Obligations.AdmissionConditions : Prop :=
  (∀ (ns : List Neighbour) (j : Station) (m : Nat), (ns.map Neighbour.station).Nodup →
    (moveoutOf ns j = some m ↔ (⟨j, m⟩ : Neighbour) ∈ ns)) ∧
  ∀ (c : Candidate) (bank : Bank) (j : Station) (t : Index),
    c.admits bank j t = true ↔
      (∀ p ∈ c.picks, p.station ≠ j) ∧
      (∃ m, moveoutOf (bank.neighbourList c.anchor) j = some m ∧
        min (t - c.t0).toNat (c.t0 - t).toNat ≤ m) ∧
      precedes c.deadline t = false

/-- R83, R85, R86, R90, R91, R98: a PICK taken that brings no switch about. A disabled station's pick is
discarded. Otherwise it joins the admitting candidate of lowest open order: a DECLARED one may extend its
deadline, an OPEN one is declared when its weight sum reaches its effective quorum with 2 picks or more. -/
def Obligations.PickJoinsTheOldestCandidate : Prop :=
  ∀ (s : State) (p : Pick) (rest : List QueueEntry), s.pins.rstn = true → s.pickQueue = .pick p :: rest →
    s.channel.length + 17 ≤ 64 → entrySwitches s.assoc.switch (.pick p) = false →
    ((s.assocBank.station p.station).enable = false →
      exec .associatorTakePick s = .next { s with pickQueue := rest }) ∧
    ∀ k c, (s.assocBank.station p.station).enable = true → s.candidate k = some c →
      c.admits s.assocBank p.station p.onset = true →
      (∀ j c', s.candidate j = some c' → c'.admits s.assocBank p.station p.onset = true → j ≠ k →
        c.order < c'.order) →
      let a := s.assocBank.params
      let joined : Candidate :=
        { c with
          picks := c.picks ++ [p]
          weight := c.weight + (s.assocBank.station p.station).weight
          earliest := if precedes p.onset c.earliest then p.onset else c.earliest }
      let moved := indexPlus c.deadline a.extLength
      let bound := indexPlus c.t0 a.span
      exec .associatorTakePick s = .next
        (match c.state with
        | .declared =>
          { s with pickQueue := rest }.setCandidate k (some
            (if c.extensions < a.extLimit ∨ a.extLimit = 7 then
              { joined with
                deadline := if precedes bound moved then bound else moved
                extensions := c.extensions + 1 }
            else joined))
        | .opened =>
          if c.quorum ≤ joined.weight ∧ 2 ≤ joined.picks.length then
            { s with
              pickQueue := rest
              channel := s.channel ++ [Message.declare
                { slot := k, anchor := c.anchor, t0 := c.t0, earliest := joined.earliest
                  picks := joined.picks
                  generation :=
                    if s.assoc.inUse = BankName.active then s.ctrl.generation else s.ctrl.generation + 1
                  captureEnable := a.captureEnable, captureSet := a.captureSet, pre := a.pre, post := a.post
                  neighbours := (s.assocBank.neighbourList c.anchor).map Neighbour.station }] }.setCandidate k
              (some { joined with state := .declared })
          else { s with pickQueue := rest }.setCandidate k (some joined))

/-- R87, R88, R89: a PICK that no candidate admits opens one in the FREE slot of lowest number, with its
deadline, its effective quorum and the next open order, or is lost with CANDIDATE_FULL when no slot is FREE.
The candidates are renumbered first where R82 says so (RenumberingKeepsTheRanking says when and how). -/
def Obligations.PickOpensACandidate : Prop :=
  ∀ (s : State) (p : Pick) (rest : List QueueEntry), s.pins.rstn = true → s.pickQueue = .pick p :: rest →
    s.channel.length + 17 ≤ 64 → entrySwitches s.assoc.switch (.pick p) = false →
    (s.assocBank.station p.station).enable = true →
    (∀ k c, s.candidate k = some c → c.admits s.assocBank p.station p.onset = false) →
    (∀ k, s.candidate k = none → (∀ j, j < k → s.candidate j ≠ none) →
      let a := s.assoc.renumber
      let ns := s.assocBank.neighbourList p.station
      let reach := ns.foldl (fun m x => max m x.moveout) 0
      let counting := ns.filter fun x => (s.assocBank.station x.station).enable && s.available x.station
      let own := (s.assocBank.station p.station).weight
      exec .associatorTakePick s = .next
        { s with
          pickQueue := rest
          assoc := { a with
            openOrder := a.openOrder + 1
            slots := a.slots.set k (some
              { state := .opened, order := a.openOrder, anchor := p.station, t0 := p.onset
                earliest := p.onset
                deadline := indexPlus p.onset (min (reach + s.assocBank.params.slack) s.assocBank.params.span)
                extensions := 0
                quorum := max 2 (min s.assocBank.params.quorum
                  (own + (counting.map fun x => (s.assocBank.station x.station).weight).sum))
                weight := own, picks := [p] }) } }) ∧
    ((∀ k, s.candidate k ≠ none) →
      exec .associatorTakePick s = .next
        ({ s with pickQueue := rest }.report .candidateFull (byte p.station.val)))

/-- R82: with the open-order counter below its top nothing is renumbered; at the top, renumbering keeps the
ranking of every candidate, changes no other field, gives each an order below the number of the candidates,
and sets the counter to that number, which is at most 16. -/
def Obligations.RenumberingKeepsTheRanking : Prop :=
  ∀ a : Associator, (a.openOrder ≠ 4294967295 → a.renumber = a) ∧
    (a.openOrder = 4294967295 →
      (∀ k : Fin 16, a.renumber.slots[k] =
        (a.slots[k]).map fun c => { c with order := orderRank a.slots c.order }) ∧
      (∀ (j k : Fin 16) c d, a.slots[j] = some c → a.slots[k] = some d →
        (orderRank a.slots c.order < orderRank a.slots d.order ↔ c.order < d.order)) ∧
      (∀ (k : Fin 16) c, a.slots[k] = some c → orderRank a.slots c.order < a.renumber.openOrder) ∧
      a.renumber.openOrder = (List.finRange 16).countP (fun k : Fin 16 => (a.slots[k]).isSome) ∧
      a.renumber.openOrder ≤ 16 ∧ a.renumber.view = a.view ∧ a.renumber.watermark = a.watermark ∧
      a.renumber.inUse = a.inUse ∧ a.renumber.switch = a.switch)

/-- R72, R73, R92: a LINE MARK taken that brings no switch about sets the view of its line alone, and leaves
the open orders, the bank in use and everything outside the associator, the pick queue and the event channel
as they were. The watermark is judged after each view change: it becomes the earliest progress of the lines
whose view is live, if it was NONE or that index is later. A live mark with restart set is two view changes,
the leave and then the return. -/
def Obligations.LineMarkSetsTheView : Prop :=
  ∀ (s : State) (m : LineMark) (rest : List QueueEntry), s.pins.rstn = true →
    s.pickQueue = .mark m :: rest → s.channel.length + 17 ≤ 64 →
    entrySwitches s.assoc.switch (.mark m) = false →
    let gone := s.assoc.view.set m.line ⟨false, none⟩
    let view := s.assoc.view.set m.line (if m.live then ⟨true, m.progress⟩ else ⟨false, none⟩)
    let live : LineView → Option Index := fun v => if v.live then v.progress else none
    let earliest : PerLine LineView → Option Index := fun v =>
      match live v.a, live v.b with
      | some x, some y => some (if precedes y x then y else x)
      | some x, none => some x
      | none, y => y
    let judge : Option Index → PerLine LineView → Option Index := fun w v =>
      match w, earliest v with
      | none, i => i
      | some w, none => some w
      | some w, some i => some (if precedes w i then i else w)
    ∃ t, exec .associatorTakeLineMark s = .next t ∧
      t.assoc.view = view ∧
      t.assoc.watermark =
        judge (if m.live = true ∧ m.restart = true then judge s.assoc.watermark gone else s.assoc.watermark) view ∧
      t.assoc.openOrder = s.assoc.openOrder ∧ t.assoc.inUse = s.assoc.inUse ∧
      t.assoc.switch = s.assoc.switch ∧
      t = { s with pickQueue := rest, assoc := t.assoc, channel := t.channel } ∧
      (t.assoc.watermark = s.assoc.watermark → m.restart = false →
        t.channel = s.channel ∧ t.assoc.slots = s.assoc.slots)

/-- R73: once the watermark has a value, every command but a reset leaves it or moves it forward once, by less
than 2^31. A live LINE MARK with restart set is two view changes (R72): the watermark moves forward at most
once at the leave, and at most once more at the return. -/
def Obligations.WatermarkNeverFallsBack : Prop :=
  ∀ (c : Instr) (s t : State) (w : Index), exec c s = .next t → s.assoc.watermark = some w →
    c ≠ .rstnAsserted → (∀ u, c ≠ .rstnReleased u) → c ≠ .resetFull → c ≠ .resetEngine →
    (∃ w', t.assoc.watermark = some w' ∧ (w' = w ∨ precedes w w' = true)) ∨
      ∃ m rest w1 w2, c = .associatorTakeLineMark ∧ s.pickQueue = .mark m :: rest ∧ m.live = true ∧
        m.restart = true ∧ (s.viewStep m.line ⟨false, none⟩).assoc.watermark = some w1 ∧
        t.assoc.watermark = some w2 ∧ (w1 = w ∨ precedes w w1 = true) ∧ (w2 = w1 ∨ precedes w1 w2 = true)

/-- R93, R94, R95: after a LINE MARK that changed the watermark, no candidate remains whose deadline
precedes it, every other candidate stays as it was, and one CLOSE message has been sent for each DECLARED
candidate closed, SWITCH_CLOSED clear; the closings of one view change go oldest first (a mark with restart
set is two view changes). -/
def Obligations.CandidatesClosedBehindWatermark : Prop :=
  ∀ (s t : State) (m : LineMark) (rest : List QueueEntry) (w : Index), s.pins.rstn = true →
    s.pickQueue = .mark m :: rest → s.channel.length + 17 ≤ 64 →
    entrySwitches s.assoc.switch (.mark m) = false → exec .associatorTakeLineMark s = .next t →
    t.assoc.watermark = some w → t.assoc.watermark ≠ s.assoc.watermark →
    (∀ k c, t.candidate k = some c → precedes c.deadline w = false ∧ s.candidate k = some c) ∧
    ∃ closed : List (Fin 16 × Candidate),
      t.channel = s.channel ++ closed.map (fun x => .close ⟨x.1, x.2.picks, x.2.weight, false⟩) ∧
      (∀ k c, (k, c) ∈ closed ↔ s.candidate k = some c ∧ t.candidate k = none ∧ c.state = .declared) ∧
      (closed.map Prod.fst).Nodup ∧
      (m.restart = false → (closed.map fun x => x.2.order).Pairwise (· ≤ ·) ∧
        ∀ k c, s.candidate k = some c → precedes c.deadline w = false → t.candidate k = some c)

/-- R97: the switch at an entry closes every candidate, each DECLARED one with a CLOSE message with
SWITCH_CLOSED set, takes the shadow bank into use, reports "switched", and changes neither the watermark
nor the view nor the open-order counter; the entry is then handled under the new bank. An entry brings the
switch about when it is immediate, or when the entry's index (a PICK's onset, a LINE MARK's progress) is at or
after the switch index. With fewer than 17 free places in the event channel the associator takes no entry
(R71). An entry that brings no switch about is handled at once. The associator's bank is the one that it has in
use (R80). -/
def Obligations.SwitchFlushesTheCandidates : Prop :=
  (∀ s : State, s.assocBank =
    match s.assoc.inUse with
    | .active => s.ctrl.active
    | .shadow => s.ctrl.shadow) ∧
  (∀ (s : State) (e : QueueEntry) (rest : List QueueEntry), s.pins.rstn = true → s.pickQueue = e :: rest →
    s.channel.length + 17 ≤ 64 → entrySwitches s.assoc.switch e = false →
    (∀ p, e = .pick p → exec .associatorTakePick s = .next ({ s with pickQueue := rest }.handlePick p)) ∧
    ∀ m, e = .mark m → exec .associatorTakeLineMark s = .next ({ s with pickQueue := rest }.handleMark m)) ∧
  (∀ (sw : Option SwitchPoint) (e : QueueEntry), entrySwitches sw e = true ↔
    sw = some .immediate ∨ ∃ p i, sw = some (.atIndex p) ∧ (i = p ∨ precedes p i = true) ∧
      ((∃ x, e = .pick x ∧ x.onset = i) ∨ ∃ m, e = .mark m ∧ m.progress = some i)) ∧
  (∀ s : State, 64 < s.channel.length + 17 →
    exec .associatorTakePick s = .next s ∧ exec .associatorTakeLineMark s = .next s) ∧
  ∀ s : State,
    (∀ k, s.assocSwitch.candidate k = none) ∧ s.assocSwitch.assoc.inUse = .shadow ∧
    s.assocSwitch.assoc.switch = none ∧ s.assocSwitch.assoc.watermark = s.assoc.watermark ∧
    s.assocSwitch.assoc.view = s.assoc.view ∧ s.assocSwitch.assoc.openOrder = s.assoc.openOrder ∧
    s.assocSwitch.ctrl = { s.ctrl with reports := s.ctrl.reports ++ [⟨.associator, false⟩] } ∧
    (∃ closed : List (Fin 16 × Candidate),
      s.assocSwitch.channel =
        s.channel ++ closed.map (fun x => .close ⟨x.1, x.2.picks, x.2.weight, true⟩) ∧
      (∀ k c, (k, c) ∈ closed ↔ s.candidate k = some c ∧ c.state = .declared) ∧
      (closed.map Prod.fst).Nodup ∧ (closed.map fun x => x.2.order).Pairwise (· ≤ ·)) ∧
    ∀ e rest, s.pins.rstn = true → s.pickQueue = e :: rest → s.channel.length + 17 ≤ 64 →
      entrySwitches s.assoc.switch e = true →
      (∀ p, e = .pick p →
        exec .associatorTakePick s = .next ({ s with pickQueue := rest }.assocSwitch.handlePick p)) ∧
      ∀ m, e = .mark m →
        exec .associatorTakeLineMark s = .next ({ s with pickQueue := rest }.assocSwitch.handleMark m)

/-- R81, R101: no pick list of a candidate, of a message on the event channel or of an event record holds
two picks from the same station, through every step. -/
def Obligations.PickListsHoldEachStationOnce : Prop :=
  ∀ s t : State, s.pickListsOk → step s = .next t → t.pickListsOk

/-! ## Capture engine -/

/-- R103, R105 to R108, R113, for a DECLARE whose capture enable is off: the record is created in the place that
R106 obtains (under RECYCLE the oldest READY record's, which is freed and announced first), with the first
event number from the next one on that no record holds. With no FREE place under KEEP, or without a READY
record under RECYCLE, the declaration is unrecorded. That its EVENT_TABLE_FULL report comes before its EVENT
DECLARED request is the model's choice (log 26). -/
def Obligations.DeclarationGetsRecord : Prop :=
  ∀ (s : State) (m : DeclareMsg) (rest : List Message), s.pins.rstn = true →
    s.channel = .declare m :: rest →
    (∀ p b recycled n, { s with channel := rest }.obtains p b recycled → m.captureEnable = false →
      b.firstUnused n → 1 ≤ s.capture.nextNumber → s.capture.nextNumber ≤ 65535 →
      exec .declareMessageTaken s = .next
        (({ b with
          capture := { b.capture with
            records := b.capture.records.set p (some
              { number := n, state := .active, order := b.recordCount, anchor := m.anchor
                t0 := m.t0, earliest := m.earliest, generation := m.generation, picks := m.picks
                switchClosed := false, captureAbsent := false, captureDisabled := true, capture := none })
            map := s.capture.map.set m.slot (.record p)
            nextNumber := (if n = 65535 then 1 else n + 1) } }.requestAll (recycled.map .eventRecycled)).request
          (.eventDeclared n false m.anchor m.t0 m.earliest m.picks.length m.generation .disabled 0 0 0))) ∧
    ((∀ p, s.record p ≠ none) →
      (s.ctrl.settings.retention = .keep ∨ ∀ p r, s.record p = some r → r.state ≠ .ready) →
      exec .declareMessageTaken s = .next
        (({ s with
          channel := rest
          capture := { s.capture with map := s.capture.map.set m.slot .unrecorded } }.report
            .eventTableFull 0xFF).request
          (.eventDeclared 0 true m.anchor m.t0 m.earliest m.picks.length m.generation .noRecord 0 0 0)))

/-- R109 to R112 and R121, for a DECLARE whose capture enable is on: the stations of the set, ascending. Room is
made for all of their blocks: where the free list holds them nothing is freed; under KEEP, or with no READY
record left, nothing more is; and under RECYCLE the oldest READY record is freed, and so on. With room, each
station has its consecutive blocks of the free list and its boundary; without, the capture is absent, with
POOL_SHORT. The records freed are announced, and then the declaration. That the POOL_SHORT report comes before
these requests is the model's choice (log 26). -/
def Obligations.CaptureReservedWhole : Prop :=
  (∀ (need fuel : Nat) (b : State),
    (need ≤ b.capture.freeList.length → State.makeRoom need fuel b = ⟨b, true, []⟩) ∧
    (b.capture.freeList.length < need →
      (b.ctrl.settings.retention = .keep ∨ ∀ p r, b.record p = some r → r.state ≠ .ready) →
      State.makeRoom need fuel b = ⟨b, false, []⟩) ∧
    ∀ p r, b.capture.freeList.length < need → b.ctrl.settings.retention = .recycle → b.oldestReadyIs p r →
      let others := State.makeRoom need fuel (b.withoutRecord p r)
      State.makeRoom need (fuel + 1) b = ⟨others.state, others.ok, r.number :: others.recycled⟩) ∧
  ∀ (s : State) (m : DeclareMsg) (rest : List Message) (p : Fin 32) (b : State) (recycled : List Nat) (number : Nat),
    s.pins.rstn = true → s.channel = .declare m :: rest → m.captureEnable = true → m.pre ≤ 4095 → m.post ≤ 4096 →
    { s with channel := rest }.obtains p b recycled → b.firstUnused number → 1 ≤ s.capture.nextNumber →
    s.capture.nextNumber ≤ 65535 →
    let stations := s.captureStations m
    let start := indexMinus m.earliest m.pre
    let stop := indexPlus m.earliest m.post
    let n := m.pre + m.post + 1
    let each := (n + 255) / 256
    let fresh : Record :=
      { number := number, state := .active, order := b.recordCount, anchor := m.anchor
        t0 := m.t0, earliest := m.earliest, generation := m.generation, picks := m.picks
        switchClosed := false, captureAbsent := false, captureDisabled := false, capture := none }
    let created : State :=
      { b with
        capture := { b.capture with
          records := b.capture.records.set p (some fresh)
          map := s.capture.map.set m.slot (.record p)
          nextNumber := (if number = 65535 then 1 else number + 1) } }
    let room := State.makeRoom (stations.length * each) 32 created
    let freed := (recycled ++ room.recycled).map Notice.eventRecycled
    (∀ i, i ∈ stations ↔ (m.captureSet = .all ∨ i = m.anchor ∨ i ∈ m.neighbours) ∧
      (s.entryInUse i).enable = true ∧ s.available i = true) ∧
    stations.Pairwise (fun i j => i < j) ∧
    room.state = { created with capture := room.state.capture } ∧
    ∃ order, room.state.record p = some { fresh with order := order } ∧
      (room.ok = true →
        exec .declareMessageTaken s = .next
          (({ room.state with
            capture := { room.state.capture with
              freeList := room.state.capture.freeList.drop (stations.length * each)
              records := room.state.capture.records.set p (some { fresh with order := order, capture := (some
                ⟨start, stop, stations.zipIdx.map fun (x : Station × Nat) =>
                  let boundary := (s.bankLine (lineOf x.1)).progress
                  let bulk := (⟨start, stop, []⟩ : CaptureSection).bulkLength boundary
                  { station := x.1, boundary := boundary
                    chain := ((room.state.capture.freeList.drop (x.2 * each)).take each).map some
                    bulkFirst := none, bulkCount := 0, directCount := 0, filledCount := 0
                    startClamped := false, lineLost := false, testData := false
                    bulkDone := decide (bulk = 0), directDone := decide (n ≤ bulk)
                    bulkRead := 0, bulkFilled := 0 }⟩) }) } }.requestAll freed).request
            (.eventDeclared number false m.anchor m.t0 m.earliest m.picks.length m.generation
              .captured stations.length start stop))) ∧
      (room.ok = false →
        exec .declareMessageTaken s = .next
          ((({ room.state with
            capture := { room.state.capture with
              records := room.state.capture.records.set p
                (some { fresh with order := order, captureAbsent := true }) } }.report .poolShort 0xFF).requestAll
            freed).request
            (.eventDeclared number false m.anchor m.t0 m.earliest m.picks.length m.generation .absent 0 0 0)))

/-- R109: the offset of an index, the size of a window and which indices it contains. R112: the bulk range of a window holds exactly its indices at or before the boundary when the boundary
is at or after start, and none otherwise; the direct range holds the rest of the window. The model's choices in
it: a boundary at or after end but not at or after start gives no bulk range (log 28), and so does an entry
without a boundary (log 16). -/
def Obligations.WindowSplitsAtBoundary : Prop :=
  (∀ (c : CaptureSection) (e : StationEntry) (i : Index),
    c.offset i = (i.toNat + 4294967296 - c.start.toNat) % 4294967296 ∧
    c.size = (c.stop.toNat + 4294967296 - c.start.toNat) % 4294967296 + 1 ∧
    (c.contains i = true ↔ c.offset i < c.size) ∧ (c.contains i = false → c.directContains e i = false)) ∧
  ∀ (c : CaptureSection) (e : StationEntry) (i : Index), c.size ≤ 8192 → c.contains i = true →
    c.bulkLength e.boundary ≤ c.size ∧
    (c.directContains e i = true ↔ ¬ c.offset i < c.bulkLength e.boundary) ∧
    (e.boundary = none → c.bulkLength e.boundary = 0) ∧
    ∀ b, e.boundary = some b →
      (atOrAfter b c.start = false → c.bulkLength e.boundary = 0) ∧
      (atOrAfter b c.start = true → (c.offset i < c.bulkLength e.boundary ↔ c.offset i ≤ c.offset b))

/-- R114: a bulk copy that is not done reads the slot of the next index of its range: a slot that holds that
index is written at its place and lengthens the run, any other slot abandons the run with START_CLAMPED. The
read is an event at the entry, and CompletionKeepsTheRun says what follows where it completes the entry; where
it does not, the result is written out. R110: the instant of offset o has place o mod 256 of the chain's block at
position o / 256, and a write there changes no other place. The premise of that clause is the model's canonical
form. -/
def Obligations.BulkCopyReadsOneSlot : Prop :=
  (∀ (m : SampleMemory) (chain : List (Option Nat)) (o : Nat) (x : BlockPlace),
    chainBlock chain o = (chain[o / 256]?).join ∧ (m.writeChain chain o x).rings = m.rings ∧
    (Memory.wf m = true → ∀ b place, place < 256 → (m.writeChain chain o x).blockPlace b place =
      (if chainBlock chain o = some b ∧ place = o % 256 then x else m.blockPlace b place))) ∧
  ∀ (s : State) (p : Fin 32) (r : Record) (c : CaptureSection) (before after : List StationEntry)
    (e : StationEntry), s.pins.rstn = true → s.record p = some r → r.capture = some c →
    c.entries = before ++ e :: after → (∀ x ∈ before, x.station ≠ e.station) →
    (e.bulkDone = true → exec (.bulkCopyRead p.val e.station.val) s = .next s) ∧
    (e.bulkDone = false →
      let i := indexPlus c.start e.bulkRead
      let slot := s.mem.ringSlot e.station i
      let copied : State := { s with mem := s.mem.writeChain e.chain (c.offset i) ⟨slot.filled, slot.samples⟩ }
      let hit : StationEntry → StationEntry := fun x =>
        { x with
          bulkFirst := (if x.bulkCount = 0 then some i else x.bulkFirst)
          bulkCount := x.bulkCount + 1
          bulkFilled := x.bulkFilled + slot.filled.toNat
          filledCount := x.filledCount + slot.filled.toNat
          bulkRead := x.bulkRead + 1, bulkDone := decide (c.bulkLength e.boundary ≤ x.bulkRead + 1) }
      let miss : StationEntry → StationEntry := fun x =>
        { x with
          startClamped := true, bulkFirst := none, bulkCount := 0, bulkFilled := 0
          filledCount := x.filledCount - x.bulkFilled
          bulkRead := x.bulkRead + 1, bulkDone := decide (c.bulkLength e.boundary ≤ x.bulkRead + 1) }
      exec (.bulkCopyRead p.val e.station.val) s = .next
        (if slot.tag = some i then copied.entryEvent p e.station hit else s.entryEvent p e.station miss) ∧
      ((e.directDone = false ∨ e.bulkRead + 1 < c.bulkLength e.boundary) →
        exec (.bulkCopyRead p.val e.station.val) s = .next
          (if slot.tag = some i then
            copied.setRecord p (some { r with capture := some { c with entries := before ++ hit e :: after } })
          else s.setRecord p (some { r with capture := some { c with entries := before ++ miss e :: after } }))))

/-- R116: an instant taken is written for every station entry of a station of its line, in every record,
whose direct range holds it and has not ended: the counts, TEST_DATA and direct done, and the place of its
offset in the chain. The write of the window's end to an entry whose bulk copy is done completes it: its unused
blocks leave its chain for the tail of the free list (R118), and a FILLING record whose last entry this is becomes
READY (R120; InstantActsOnItsLineOnly has its EVENT READY request). Every other entry keeps its fields, nothing
else of a record or of the event table changes, and every place of a capture block that is not the place of a
written entry reads as before. The records of one station go in ascending place (log 9). The premises are that an
event's entries are of different stations (R101, which EventTableStaysConsistent keeps), that no two chains share
a block (R110), and the model's canonical form. -/
def Obligations.DirectWritesReachEveryRecord : Prop :=
  ∀ (s : State) (n : Instant),
    Memory.wf s.mem = true → s.blocksAccounted →
    (∀ q x, s.record q = some x → (x.entries.map StationEntry.station).Nodup) →
    let written : CaptureSection → StationEntry → Prop := fun c e =>
      lineOf e.station = n.line ∧ c.directContains e n.index = true ∧ e.directDone = false
    let write : CaptureSection → StationEntry → StationEntry := fun c e =>
      if lineOf e.station = n.line ∧ c.directContains e n.index = true ∧ e.directDone = false then
        { e with
          directCount := e.directCount + 1
          filledCount := e.filledCount + (if (n.slot e.station).isNone then 1 else 0)
          testData := e.testData || n.test, directDone := decide (n.index = c.stop) }
      else e
    (∀ p, s.record p = none → (s.takeWhole n).record p = none) ∧
    (∀ p r, s.record p = some r → r.capture = none → (s.takeWhole n).record p = some r) ∧
    (∀ p r c, s.record p = some r → r.capture = some c →
      (s.takeWhole n).record p = some (r.afterEvents c (write c))) ∧
    (∃ stations : List Station, (∀ i, i ∈ stations ↔ lineOf i = n.line) ∧ stations.Pairwise (fun i j => i < j) ∧
      (s.takeWhole n).capture.freeList = s.capture.freeList ++ s.blocksReturned stations write) ∧
    (s.takeWhole n).capture.map = s.capture.map ∧
    (s.takeWhole n).capture.nextNumber = s.capture.nextNumber ∧
    (∀ p r c e, s.record p = some r → r.capture = some c → e ∈ c.entries → written c e →
      ∀ b, chainBlock e.chain (c.offset n.index) = some b →
        (s.takeWhole n).mem.blockPlace b (c.offset n.index % 256) =
          (match n.slot e.station with
          | some d => ⟨false, d.samples⟩
          | none => ⟨true, (s.station e.station).held⟩)) ∧
    ∀ b place, place < 256 →
      (∀ p r c e, s.record p = some r → r.capture = some c → e ∈ c.entries → written c e →
        chainBlock e.chain (c.offset n.index) = some b → c.offset n.index % 256 ≠ place) →
      (s.takeWhole n).mem.blockPlace b place = s.mem.blockPlace b place

/-- R114: the run that a bulk copy has built is always contiguous, ends at the slot read last, and counts no
more filled instants than it holds, through every step; and the copy is done exactly when it has read its
whole range. -/
def Obligations.CopiedRunStaysContiguous : Prop :=
  ∀ s t : State, s.runsOk → step s = .next t → t.runsOk

/-- R118, R120: an event that completes an entry returns exactly the blocks of its chain that hold no
copied instant, in chain order, and the others stay in their positions; the completion of a FILLING
record's last entry makes it READY with an EVENT READY request. R101: the first copied index and the copied
count of an entry. -/
def Obligations.CompletionKeepsTheRun : Prop :=
  (∀ (c : CaptureSection) (e : StationEntry),
    e.copied = e.bulkCount + e.directCount ∧
    (e.complete = true ↔ e.bulkDone = true ∧ e.directDone = true) ∧
    c.firstCopied e =
      (if 0 < e.bulkCount then e.bulkFirst
      else if 0 < e.directCount then some (indexPlus c.start (c.bulkLength e.boundary))
      else none)) ∧
  ∀ (s : State) (p : Fin 32) (r : Record) (c : CaptureSection) (before after : List StationEntry)
    (e : StationEntry) (f : StationEntry → StationEntry), s.record p = some r → r.capture = some c →
    c.entries = before ++ e :: after → (∀ x ∈ before, x.station ≠ e.station) → e.complete = false →
    (f e).complete = true →
    ∃ chain : List (Option Nat), ∃ back : List Nat,
      chain.length = (f e).chain.length ∧
      (∀ (k : Nat) (b : Option Nat), (f e).chain[k]? = some b →
        chain[k]? = some (if c.keepsPosition (f e) k then b else none)) ∧
      back = chainBlocks (((f e).chain.zipIdx.filter fun x => !c.keepsPosition (f e) x.2).map Prod.fst) ∧
      (∀ k, c.keepsPosition (f e) k = true ↔ ∃ first o, c.firstCopied (f e) = some first ∧
        c.offset first ≤ o ∧ o < c.offset first + (f e).copied ∧ o / 256 = k) ∧
      let r' : Record :=
        { r with capture := some { c with entries := before ++ { f e with chain := chain } :: after } }
      s.entryEvent p e.station f =
        (if r.state = .filling ∧ ∀ x ∈ before ++ after, x.complete = true then
          ((s.setRecord p (some { r' with state := .ready })).returnBlocks back).request
            (.eventReady r.number .captured (before.length + 1 + after.length)
              (r'.entries.countP StationEntry.startClamped) (r'.entries.countP StationEntry.lineLost)
              (r'.entries.countP StationEntry.testData))
        else (s.setRecord p (some r')).returnBlocks back)

/-- R119: a CLOSE completes the record that its slot's map entry names; for an unrecorded declaration it
only requests its notice; and it clears the map entry (R104). -/
def Obligations.CloseCompletesTheRecord : Prop :=
  ∀ (s : State) (m : CloseMsg) (rest : List Message), s.pins.rstn = true → s.channel = .close m :: rest →
    (∀ p r q qs, s.capture.map[m.slot] = .record p → s.record p = some r → m.picks = q :: qs →
      let complete := r.entries.all fun e => e.bulkDone && e.directDone
      let after := if complete then RecordState.ready else .filling
      let r' : Record :=
        { r with
          picks := m.picks
          earliest := qs.foldl (fun (x : Index) (y : Pick) => if precedes y.onset x then y.onset else x) q.onset
          switchClosed := m.switchClosed
          state := after }
      exec .closeMessageTaken s = .next
        ({ s with
          channel := rest
          capture := { s.capture with
            map := s.capture.map.set m.slot .empty
            records := s.capture.records.set p (some r') } }.requestAll
          (.eventClosed r.number false m.switchClosed r.anchor r.t0 r'.earliest m.picks.length m.weight
              (some after) ::
            if complete then [.eventReady r.number r.status r.entries.length
              (r.entries.countP StationEntry.startClamped) (r.entries.countP StationEntry.lineLost)
              (r.entries.countP StationEntry.testData)]
            else []))) ∧
    (∀ q qs, s.capture.map[m.slot] = .unrecorded → m.picks = q :: qs →
      exec .closeMessageTaken s = .next
        ({ s with
          channel := rest, capture := { s.capture with map := s.capture.map.set m.slot .empty } }.request
          (.eventClosed 0 true m.switchClosed q.station q.onset
            (qs.foldl (fun (x : Index) (y : Pick) => if precedes y.onset x then y.onset else x) q.onset)
            m.picks.length m.weight none))) ∧
    (s.capture.map[m.slot] = .empty → exec .closeMessageTaken s = .next { s with channel := rest })

/-- R110: through every step, every capture block is either in the free list or in exactly one chain of
one non-FREE record. -/
def Obligations.BlocksStayAccounted : Prop :=
  ∀ s t : State, s.blocksAccounted → step s = .next t → t.blocksAccounted

/-- R103, R104, R105, R120, R123: through every step, the event numbers of the non-FREE records are nonzero
and distinct, their declaration orders are 0, 1, 2 and onward, a map entry that names a record names an
ACTIVE one, a record is READING exactly while it is the record of a STREAMING readout, and a record in READY
or READING has every station entry complete. R101, R109: through every step the station entries of each record
are of different stations, in ascending station order. -/
def Obligations.EventTableStaysConsistent : Prop :=
  (∀ s t : State, s.numbersOk ∧ s.ordersOk ∧ s.recordStatesOk → step s = .next t →
    t.numbersOk ∧ t.ordersOk ∧ t.recordStatesOk) ∧
    ∀ s t : State, s.entriesAscend → step s = .next t → t.entriesAscend

/-! ## Readout unit and trunk port -/

/-- R128, R129: what the readout unit stages into an empty place. The premise that every instant of the
frame has a block is what R128 says of a copied run. That an entry without a first copied index is read from
the window's start is log 17, and the next index past the last frame is log 29. -/
def Obligations.DataFramesStagedInTurn : Prop :=
  ∀ s : State, s.pins.rstn = true → s.readout.streaming = true → s.readout.endStaged = false →
    s.trunk.staged = none →
    ((s.readout.current = none ∨ s.readout.cancel = true) → exec .stageDataFrame s = .next
      { s with
        readout := { s.readout with endStaged := true }
        trunk := { s.trunk with staged := some .readoutEnd } }) ∧
    ∀ st p r c e, s.readout.current = some st → s.readout.cancel = false → s.readout.record = some p →
      s.record p = some r → r.capture = some c → r.entry st = some e →
      let o := c.offset s.readout.nextIndex
      let n := min 64 s.readout.remaining
      let following := (match s.readout.selection with
        | .all => c.entries.find? fun (x : StationEntry) => decide (st.val < x.station.val)
        | .one _ => none)
      (∀ k, k < n → (chainBlock e.chain (o + k)).isSome = true) →
      exec .stageDataFrame s = .next
        { s with
          readout := (if 64 < s.readout.remaining then
              { s.readout with
                nextIndex := indexPlus s.readout.nextIndex 64, remaining := s.readout.remaining - 64 }
            else match following with
              | some x =>
                { s.readout with
                  current := some x.station
                  nextIndex := (match c.firstCopied x with
                    | some i => i
                    | none => c.start)
                  remaining := x.copied }
              | none =>
                { s.readout with
                  current := none, nextIndex := indexPlus s.readout.nextIndex n, remaining := 0 })
          trunk := { s.trunk with staged := some (.capture
            { number := s.readout.number, station := st, startClamped := e.startClamped
              lineLost := e.lineLost, testData := e.testData, first := s.readout.nextIndex
              instants := (List.range n).map fun k =>
                s.mem.blockPlace ((chainBlock e.chain (o + k)).getD 0) ((o + k) % 256) }) } }

/-- R136 to R139: where a well-formed downlink frame goes. That Line Port A receives the inner frame of selector 3
first is the model's choice (log 30). -/
def Obligations.DownlinkRouted : Prop :=
  ∀ (s : State) (kind : Byte) (payload : List Byte), s.pins.rstn = true → s.trunk.rx = [] →
    payload.length ≤ 2047 →
    (∀ addr code tag params, kind = 0x41 → payload = addr :: code :: tag :: params →
      exec (.downlinkFrameReceived (envelope kind payload)) s = .next
        (if addr.toNat = s.unitAddress ∨ addr = 31 then
          (if s.trunk.control.length < 4 then
            { s with trunk := { s.trunk with control := s.trunk.control ++ [⟨addr, code, tag, params⟩] } }
          else s.report .controlOverrun 0xFF)
        else s)) ∧
    (∀ selector inner rest, kind = 0x42 → payload = selector :: inner :: rest →
      exec (.downlinkFrameReceived (envelope kind payload)) s = .next
        (if selector = 1 then s.queueField .a ⟨inner, rest⟩
        else if selector = 2 then s.queueField .b ⟨inner, rest⟩
        else if selector = 3 then (s.queueField .a ⟨inner, rest⟩).queueField .b ⟨inner, rest⟩
        else s)) ∧
    ((kind = 0x41 → payload.length < 3) → (kind = 0x42 → payload.length < 2) →
      exec (.downlinkFrameReceived (envelope kind payload)) s = .next s)

/-- R141, R142, with R129 and R130 for the staged place, and the TRDY pin: the arbiter takes the oldest
frame of the first class that holds one and the transmitter sends it with a fresh envelope. The payloads of
CAPTURE DATA and READOUT END are those of Table 11.3, fields of more than one byte are sent most significant
byte first (R165), and the line numbers, completion codes and classes are the
values of Tables 11.3 and 11.4. That the record, the current entry and end staged are
none and clear after a READOUT END, and the other readout fields as they stood, is the model's choice
(log 15). -/
def Obligations.ArbiterServesClassesInOrder : Prop :=
  (∀ n : Nat, (byte n).toNat = n % 256 ∧ be16 n = [byte (n / 256), byte n] ∧
    be32 n = [byte (n / 16777216), byte (n / 65536), byte (n / 256), byte n]) ∧
  (∀ x : Sample, be24 x = [byte (x.toNat / 65536), byte (x.toNat / 256), byte x.toNat]) ∧
  [Completion.done, .doneClamped, .unknownCommand, .malformed, .noSuchTable, .switchPending, .noSuchEvent,
    .wrongState].map Completion.code = [0x00, 0x01, 0x10, 0x11, 0x12, 0x13, 0x14, 0x15] ∧
  [NoticeClass.event, .station, .line, .config, .fault].map NoticeClass.code = [1, 2, 3, 4, 5] ∧
  [Line.a, .b].map linePassCode = [1, 2] ∧
  (∀ f : CaptureFrame, f.payload =
    be16 f.number ++
      [byte f.station.val, byte (f.startClamped.toNat + 2 * f.lineLost.toNat + 4 * f.testData.toNat)] ++
      be32 f.first.toNat ++ [byte f.instants.length] ++
      (f.instants.map fun x =>
        byte x.filled.toNat :: (be24 x.samples.c1 ++ be24 x.samples.c2 ++ be24 x.samples.c3)).flatten) ∧
  (∀ r : Readout, r.endPayload =
    be16 r.number ++ be16 r.framesSent ++ be32 r.instantsSent ++ [byte (r.overlap.toNat + 2 * r.cancel.toNat)]) ∧
  (∀ s : State, exec .trdyAsserted s = .next { s with pins := { s.pins with trdy := true } } ∧
    exec .trdyWithdrawn s = .next { s with pins := { s.pins with trdy := false } }) ∧
  ∀ s : State, s.pins.rstn = true →
    exec .uplinkTxDone s = .next { s with trunk := { s.trunk with tx := none } } ∧
    ((s.pins.trdy = false ∨ s.trunk.tx.isSome = true) → exec .arbiterChoice s = .next s) ∧
    (s.pins.trdy = true → s.trunk.tx = none →
      (∀ f rest, s.trunk.pass = f :: rest → exec .arbiterChoice s = .next
        { s with trunk := { s.trunk with
          pass := rest, tx := some (envelope 0x61 (byte (linePassCode f.line) :: f.original)) } }) ∧
      (∀ f rest, s.trunk.pass = [] → s.trunk.reply = f :: rest → exec .arbiterChoice s = .next
        { s with trunk := { s.trunk with
          reply := rest
          tx := some (envelope 0x62
            (byte f.unit :: f.code :: f.tag :: byte f.completion.code :: f.results)) } }) ∧
      (∀ f rest, s.trunk.pass = [] → s.trunk.reply = [] → s.trunk.notice = f :: rest →
        exec .arbiterChoice s = .next
          { s with trunk := { s.trunk with
            notice := rest, tx := some (envelope 0x63 (byte f.unit :: byte f.cls.code :: byte f.typ :: f.body)) } }) ∧
      (s.trunk.pass = [] → s.trunk.reply = [] → s.trunk.notice = [] →
        (∀ f, s.trunk.staged = some (.capture f) → exec .arbiterChoice s = .next
          { s with
            readout := { s.readout with
              framesSent := s.readout.framesSent + 1
              instantsSent := s.readout.instantsSent + f.instants.length }
            trunk := { s.trunk with staged := none, tx := some (envelope 0x64 f.payload) } }) ∧
        (s.trunk.staged = some .readoutEnd →
          let ended : State :=
            { s with
              readout := { s.readout with
                streaming := false, record := none, current := none, endStaged := false }
              trunk := { s.trunk with staged := none, tx := some (envelope 0x65 s.readout.endPayload) } }
          (s.readout.record = none → exec .arbiterChoice s = .next ended) ∧
          ∀ p r, s.readout.record = some p → s.record p = some r →
            exec .arbiterChoice s = .next (ended.setRecord p (some { r with state := .ready }))) ∧
        (s.trunk.staged = none → exec .arbiterChoice s = .next s)))

/-- R143, R145: a notice request, and a report of a flag's cause, at a masked class, at a NOTICE queue with
room, and at a full one. A dropped request of a class other than FAULT raises NOTICE_LOST and sends its FAULT
request on its way, with the class of the dropped request; that request is judged when it arrives: queued if
a place has become free, and otherwise dropped without a further request. Requests of one block keep their order
(R143), so the FAULT requests on their way arrive, oldest first, before a report's FAULT request is judged. That
they are on their way so long, and that the FAULT request of another flag is judged with its report, is the
model's choice (log 10). R14, R24, R121, R144, R145, R160, R165: the class, type and body of every NOTICE frame,
and the code values that its body uses. -/
def Obligations.NoticesAndFlags : Prop :=
  (∀ n : Notice, (n.cls, n.typ, n.body) =
    (match n with
    | .eventDeclared number noRecord anchor t0 earliest picks generation status entries start stop =>
      (NoticeClass.event, 1, be16 number ++ [byte noRecord.toNat, byte anchor.val] ++ be32 t0.toNat ++
        be32 earliest.toNat ++ [byte picks] ++ be16 generation.toNat ++ [byte status.code, byte entries] ++
        be32 start.toNat ++ be32 stop.toNat)
    | .eventClosed number noRecord switchClosed anchor t0 earliest picks weight after =>
      (.event, 2, be16 number ++ [byte (noRecord.toNat + 2 * switchClosed.toNat), byte anchor.val] ++
        be32 t0.toNat ++ be32 earliest.toNat ++
        [byte picks, byte weight,
          match after with
          | some x => byte x.code
          | none => 0])
    | .eventReady number status entries clamped lost test =>
      (.event, 3, be16 number ++ [byte status.code, byte entries, byte clamped, byte lost, byte test])
    | .eventRecycled number => (.event, 4, be16 number)
    | .statusChange st code previous index =>
      (.station, 1,
        [byte st.val, byte code.val,
          match previous with
          | some x => byte x.val
          | none => 0x80] ++ be32 index.toNat)
    | .lineChange cause line after test index =>
      (.line,
        (match cause with
        | .firstFrame => 1
        | .runComplete => 2
        | .gapExceeded => 3
        | .backwardRun => 4
        | .silence => 5
        | .testSet => 6
        | .testCleared => 7),
        [byte (lineCode line), byte after.code, byte test.toNat] ++
          (match index with
          | some i => 1 :: be32 i.toNat
          | none => [0, 0, 0, 0, 0]))
    | .switchComplete generation => (.config, 1, be16 generation.toNat)
    | .flagRaised flag detail => (.fault, 1, [byte flag.code, detail]))) ∧
  [Line.a, .b].map lineCode = [0, 1] ∧
  [LineState.down, .sync, .live].map LineState.code = [0, 1, 2] ∧
  [RecordState.active, .filling, .ready, .reading].map RecordState.code = [1, 2, 3, 4] ∧
  [CaptureStatus.captured, .absent, .disabled, .noRecord].map CaptureStatus.code = [1, 2, 3, 4] ∧
  [Flag.pickOverflow, .candidateFull, .eventTableFull, .poolShort, .noticeLost, .passDrop, .controlOverrun,
    .fieldDrop, .lineOverrun].map Flag.code = [0, 1, 2, 3, 4, 5, 6, 7, 8] ∧
  (∀ (s : State) (n : Notice), n.cls ≠ .fault →
    (s.ctrl.settings.mask.get n.cls = false → s.request n = s) ∧
    (s.ctrl.settings.mask.get n.cls = true → s.trunk.notice.length < 16 →
      s.request n = { s with trunk := { s.trunk with
        notice := s.trunk.notice ++ [⟨s.unitAddress, n.cls, n.typ, n.body⟩] } }) ∧
    (s.ctrl.settings.mask.get n.cls = true → 16 ≤ s.trunk.notice.length →
      s.request n =
        (if s.ctrl.flags.noticeLost then s
        else
          { s with ctrl := { s.ctrl with
            flags := s.ctrl.flags.raise .noticeLost
            lostFaults := s.ctrl.lostFaults ++ [byte n.cls.code] } }))) ∧
  (∀ (s : State) (f : Flag) (detail : Byte),
    let arrived := ({ s with ctrl := { s.ctrl with flags := s.ctrl.flags.raise f } } : State).lostFaultsArrive
    (s.ctrl.flags.get f = true → s.report f detail = s) ∧
    (s.ctrl.flags.get f = false → s.ctrl.settings.mask.fault = false → s.report f detail = arrived) ∧
    (s.ctrl.flags.get f = false → s.ctrl.settings.mask.fault = true → arrived.trunk.notice.length < 16 →
      s.report f detail = { arrived with trunk := { arrived.trunk with
        notice := arrived.trunk.notice ++ [⟨s.unitAddress, .fault, 1, [byte f.code, detail]⟩] } }) ∧
    (s.ctrl.flags.get f = false → s.ctrl.settings.mask.fault = true → 16 ≤ arrived.trunk.notice.length →
      s.report f detail = { arrived with
        ctrl := { arrived.ctrl with flags := arrived.ctrl.flags.raise .noticeLost } })) ∧
  (∀ s : State, s.ctrl.lostFaults = [] → s.lostFaultArrives = s ∧ s.lostFaultsArrive = s) ∧
  (∀ (s : State) (detail : Byte) (rest : List Byte), s.ctrl.lostFaults = detail :: rest →
    s.lostFaultsArrive = s.lostFaultArrives.lostFaultsArrive ∧
    (s.ctrl.settings.mask.fault = false →
      s.lostFaultArrives = { s with ctrl := { s.ctrl with lostFaults := rest } }) ∧
    (s.ctrl.settings.mask.fault = true → s.trunk.notice.length < 16 →
      s.lostFaultArrives = { s with
        ctrl := { s.ctrl with lostFaults := rest }
        trunk := { s.trunk with
          notice := s.trunk.notice ++ [⟨s.unitAddress, .fault, 1, [4, detail]⟩] } }) ∧
    (s.ctrl.settings.mask.fault = true → 16 ≤ s.trunk.notice.length →
      s.lostFaultArrives = { s with
        ctrl := { s.ctrl with lostFaults := rest, flags := s.ctrl.flags.raise .noticeLost } })) ∧
  ∀ (x : Flags) (f g : Flag), (x.raise f).get g = (if g = f then true else x.get g)

/-! ## Unit controller -/

/-- R148, R149, R150, and R161 for a RESET of neither kind: a code that names no command is refused with
UNKNOWN_COMMAND, and a fixed-length command with a parameter field of another length with MALFORMED; each
refusal only answers. While the REPLY queue is full no command is taken. -/
def Obligations.CommandsJudgedFirst : Prop :=
  ∀ (s : State) (c : Command),
    let fixed : List (Instr × Byte × Nat) :=
      [(.identify, 0x01, 0), (.readStatus, 0x02, 0), (.readStationStatus, 0x03, 2), (.writeSettings, 0x04, 6),
        (.readSettings, 0x05, 0), (.readTable, 0x07, 4), (.copyBank, 0x08, 0), (.switchBank, 0x09, 5),
        (.cancelSwitch, 0x0A, 0), (.restartDetectors, 0x0B, 2), (.listEvents, 0x0C, 0), (.readEvent, 0x0D, 2),
        (.fetch, 0x0E, 3), (.cancelReadout, 0x0F, 0), (.release, 0x10, 2), (.reset, 0x11, 1)]
    (s.canTake c →
      ((c.code = 0 ∨ 0x11 < c.code.toNat) →
        exec .unknownCommand s = .next (s.answered c .unknownCommand [])) ∧
      (∀ x ∈ fixed, c.code = x.2.1 → c.params.length ≠ x.2.2 →
        exec x.1 s = .next (s.answered c .malformed [])) ∧
      (∀ kind, c.code = 0x11 → c.params = [kind] → kind ≠ 1 → kind ≠ 2 →
        exec .reset s = .next (s.answered c .noSuchTable []))) ∧
    (4 ≤ s.trunk.reply.length →
      (∀ x ∈ fixed, exec x.1 s = .next s) ∧ exec .loadTable s = .next s ∧
        exec .unknownCommand s = .next s ∧ exec .resetEngine s = .next s ∧ exec .resetFull s = .next s)

/-- R146, R151, R163, R124, R125, R166: the commands that report, and WRITE SETTINGS, each with its results. READ
EVENT reports the header of 26 bytes, the picks of 9 bytes each in join order, and the entry summaries of 11
bytes each in entry order. The capture status of a record is CAPTURED with a capture section, and otherwise
DISABLED or ABSENT (R113). The premises on numbers and orders are what R105 and R103 say of every event table. -/
def Obligations.ReportsAndSettings : Prop :=
  (∀ r : Record, r.status =
    match r.capture with
    | some _ => .captured
    | none => if r.captureDisabled then .disabled else .absent) ∧
  (∀ x : Settings, writeSettings x =
    [byte x.forwarding.a.toNat, byte x.forwarding.b.toNat,
      byte (x.mask.event.toNat + 2 * x.mask.station.toNat + 4 * x.mask.line.toNat + 8 * x.mask.config.toNat +
        16 * x.mask.fault.toNat),
      (match x.retention with
      | .keep => 0
      | .recycle => 1), byte x.silence, byte x.gap]) ∧
  ∀ (s : State) (c : Command), s.canTake c →
    let header : Record → List Byte := fun r =>
      be16 r.number ++ [byte r.state.code, byte r.anchor.val] ++ be32 r.t0.toNat ++ be32 r.earliest.toNat ++
        be16 r.generation.toNat ++
        [byte (r.switchClosed.toNat + 2 * r.captureAbsent.toNat + 4 * r.captureDisabled.toNat)] ++
        (match r.capture with
        | some w => 1 :: (be32 w.start.toNat ++ be32 w.stop.toNat ++ [byte w.entries.length])
        | none => List.replicate 10 0) ++ [byte r.picks.length]
    let pick : Pick → List Byte := fun p =>
      byte p.station.val :: (be32 p.onset.toNat ++ be16 p.peak ++
        [byte p.set.val, byte (p.clipped.toNat + 2 * p.filled.toNat)])
    let summary : CaptureSection → StationEntry → List Byte := fun w e =>
      let first : Index :=
        if 0 < e.bulkCount then e.bulkFirst.getD w.start
        else if 0 < e.directCount then indexPlus w.start (w.bulkLength e.boundary)
        else w.start
      byte e.station.val :: (be32 first.toNat ++ be16 (e.bulkCount + e.directCount) ++ be16 e.filledCount ++
        [byte (e.startClamped.toNat + 2 * e.lineLost.toNat + 4 * e.testData.toNat + 8 * e.bulkDone.toNat +
          16 * e.directDone.toNat), byte (e.chain.countP Option.isSome)])
    (c.code = 0x01 → c.params = [] → exec .identify s = .next
      (s.answered c .done [0x64, 0x20, 0x01, byte s.unitAddress, 0x10, 0x00, 0x04, 0x00, 64])) ∧
    (c.code = 0x02 → c.params = [] → exec .readStatus s = .next
      { s.answered c .done
          [byte s.ctrl.flags.lineOverrun.toNat,
            byte (s.ctrl.flags.pickOverflow.toNat + 2 * s.ctrl.flags.candidateFull.toNat +
              4 * s.ctrl.flags.eventTableFull.toNat + 8 * s.ctrl.flags.poolShort.toNat +
              16 * s.ctrl.flags.noticeLost.toNat + 32 * s.ctrl.flags.passDrop.toNat +
              64 * s.ctrl.flags.controlOverrun.toNat + 128 * s.ctrl.flags.fieldDrop.toNat)] with
        ctrl := { s.ctrl with flags := Flags.clear } }) ∧
    (c.code = 0x05 → c.params = [] → exec .readSettings s = .next
      (s.answered c .done (writeSettings s.ctrl.settings))) ∧
    (∀ fa fb mask retention silence gap : Byte, c.code = 0x04 →
      c.params = [fa, fb, mask, retention, silence, gap] →
      let stored : Settings :=
        { forwarding := ⟨decide (fa ≠ 0), decide (fb ≠ 0)⟩
          mask := ⟨mask.getLsbD 0, mask.getLsbD 1, mask.getLsbD 2, mask.getLsbD 3, mask.getLsbD 4⟩
          retention := (if retention = 1 then .recycle else .keep)
          silence := max 1 silence.toNat
          gap := min 64 gap.toNat }
      exec .writeSettings s = .next
        { s.answered c (if fa.toNat ≤ 1 ∧ fb.toNat ≤ 1 ∧ retention.toNat ≤ 1 ∧ silence ≠ 0 ∧ gap.toNat ≤ 64 then
              Completion.done else .doneClamped) (writeSettings stored) with
          ctrl := { s.ctrl with settings := stored } }) ∧
    (s.ordersOk → c.code = 0x0C → c.params = [] →
      ∃ rs : List Record, (∀ r, r ∈ rs ↔ ∃ p, s.record p = some r) ∧ rs.length = s.recordCount ∧
        rs.Pairwise (fun x y => x.order < y.order) ∧
        exec .listEvents s = .next (s.answered c .done (byte rs.length :: (rs.map fun r =>
          be16 r.number ++ [byte r.state.code, byte r.anchor.val] ++ be32 r.earliest.toNat ++
            [byte r.picks.length, byte r.status.code, byte r.entries.length]).flatten))) ∧
    (s.numbersOk → c.code = 0x0D → c.params.length = 2 →
      (∀ p r, s.record p = some r → r.number = at16 c.params 0 →
        exec .readEvent s = .next (s.answered c .done (header r ++ (r.picks.map pick).flatten ++
          (match r.capture with
          | some w => (w.entries.map (summary w)).flatten
          | none => [])))) ∧
      ((∀ p r, s.record p = some r → r.number ≠ at16 c.params 0) →
        exec .readEvent s = .next (s.answered c .noSuchEvent [])))

/-- R27, R58: READ STATION STATUS and RESTART DETECTORS over a station range. -/
def Obligations.StationRangeCommands : Prop :=
  ∀ (s : State) (c : Command) (first last : Byte), s.canTake c → c.params = [first, last] →
    (¬ (first.toNat ≤ last.toNat ∧ last.toNat ≤ 63) →
      (c.code = 0x03 → exec .readStationStatus s = .next (s.answered c .noSuchTable [])) ∧
      (c.code = 0x0B → exec .restartDetectors s = .next (s.answered c .noSuchTable []))) ∧
    (first.toNat ≤ last.toNat → last.toNat ≤ 63 →
      let inside : Station → Bool := fun i => decide (first.toNat ≤ i.val) && decide (i.val ≤ last.toNat)
      (c.code = 0x03 → ∃ t, exec .readStationStatus s = .next t ∧
        (∀ i, t.station i =
          if inside i then { s.station i with unread := (s.station i).unread.tail } else s.station i) ∧
        t.bank.lines = s.bank.lines ∧
        t = { s.answered c .done ((allStations.filter inside).map fun i =>
            [byte i.val,
              (match (s.station i).confirmed with
                | some x => byte x.val
                | none => 0x80),
              (match (s.station i).unread.head? with
                | some x => byte x.val
                | none => 0xFF)]).flatten with bank := t.bank }) ∧
      (c.code = 0x0B → ∃ t, exec .restartDetectors s = .next t ∧
        (∀ i, t.station i =
          if inside i ∧ (s.station i).det ≠ .off ∧ (s.station i).det ≠ .suspended then
            { s.station i with det := .warmup, warm := 0, detection := none }
          else s.station i) ∧
        t.bank.lines = s.bank.lines ∧ t = { s.answered c .done [] with bank := t.bank }))

/-- R154, R155, R156, R167: LOAD TABLE, READ TABLE and COPY BANK, with the table identifiers, the number of entries
of each table, their sizes, and the ranges of entries that a command may name. A load writes the named entries of the shadow
bank, each clamped by its table's rule, and no other entry. -/
def Obligations.TablesLoadedAndRead : Prop :=
  (∀ (n : Nat) (t : TableId), readTableId n = some t ↔
    (n = 1 ∧ t = .stations) ∨ (n = 2 ∧ t = .sets) ∨ (n = 3 ∧ t = .neighbours) ∨ (n = 4 ∧ t = .params)) ∧
  [TableId.stations, .sets, .neighbours, .params].map (fun t => (t.entries, t.entrySize)) =
    [(64, 4), (8, 18), (64, 46), (1, 16)] ∧
  (∀ (t : TableId) (first count : Nat), t.rangeOk first count = true ↔
    1 ≤ count ∧ first + count ≤ t.entries ∧ (t = .neighbours → count ≤ 32)) ∧
  ∀ (s : State) (c : Command), s.canTake c →
    (c.code = 0x06 →
      (c.params.length < 3 → exec .loadTable s = .next (s.answered c .malformed [])) ∧
      (3 ≤ c.params.length → readTableId (at8 c.params 0) = none →
        exec .loadTable s = .next (s.answered c .noSuchTable [])) ∧
      ∀ table, 3 ≤ c.params.length → readTableId (at8 c.params 0) = some table →
        let first := at8 c.params 1
        let count := at8 c.params 2
        let valid := 1 ≤ count ∧ first + count ≤ table.entries ∧ (table = .neighbours → count ≤ 32)
        (¬ valid → exec .loadTable s = .next (s.answered c .noSuchTable [])) ∧
        (valid → c.params.length ≠ 3 + count * table.entrySize →
          exec .loadTable s = .next (s.answered c .malformed [])) ∧
        (valid → c.params.length = 3 + count * table.entrySize → s.ctrl.scheduled.isSome = true →
          exec .loadTable s = .next (s.answered c .switchPending [])) ∧
        (valid → c.params.length = 3 + count * table.entrySize → s.ctrl.scheduled = none →
          let loaded := fun n => s.ctrl.shadow.load table n
            ((c.params.drop (3 + (n - first) * table.entrySize)).take table.entrySize)
          ∃ b : Bank, exec .loadTable s = .next
              { s.answered c
                  (if (List.range count).all fun k => decide ((loaded (first + k)).clamps = 0) then
                    Completion.done else .doneClamped) [] with
                ctrl := { s.ctrl with shadow := b } } ∧
            (∀ n, first ≤ n → n < first + count → b.entryBytes table n = (loaded n).value.entryBytes table n) ∧
            ∀ other n, n < other.entries → (other ≠ table ∨ n < first ∨ first + count ≤ n) →
              b.entryBytes other n = s.ctrl.shadow.entryBytes other n)) ∧
    (∀ bank table first count : Byte, c.code = 0x07 → c.params = [bank, table, first, count] →
      (∀ t, readTableId table.toNat = some t → bank.toNat ≤ 1 → t.rangeOk first.toNat count.toNat = true →
        exec .readTable s = .next (s.answered c .done ([bank, table, first, count] ++
          ((List.range count.toNat).map fun k =>
            (if bank = 0 then s.ctrl.active else s.ctrl.shadow).entryBytes t (first.toNat + k)).flatten))) ∧
      ((1 < bank.toNat ∨ readTableId table.toNat = none ∨
          ∀ t, readTableId table.toNat = some t → t.rangeOk first.toNat count.toNat = false) →
        exec .readTable s = .next (s.answered c .noSuchTable []))) ∧
    (c.code = 0x08 → c.params = [] →
      (s.ctrl.scheduled.isSome = true → exec .copyBank s = .next (s.answered c .switchPending [])) ∧
      (s.ctrl.scheduled = none → exec .copyBank s = .next
        { s.answered c .done [] with ctrl := { s.ctrl with shadow := s.ctrl.active } }))

/-- R20, R34, R77, R79, R151 with R166 and R167: what a loaded entry of each table is stored as, every field in
its range, and the number of clamps that this took; that READ TABLE reports the unused bytes of a detector set as
0, and the unused places of a neighbour list with station 0xFF and moveout 0; and what READ TABLE reports of a loaded entry, and READ
SETTINGS of written settings, is of the loaded length, and loading it back changes nothing and clamps
nothing. -/
def Obligations.TableEntriesRoundTrip : Prop :=
  (∀ (b : Bank) (i : Station) (bs : List Byte),
    let role : Nat → Role := fun n => if n = 1 then .z else if n = 2 then .h1 else if n = 3 then .h2 else .off
    let role1 := role (at8 bs 1 / 16)
    let role2 := role (at8 bs 1 % 16)
    let role3 := role (at8 bs 2 / 16)
    let mode : Mode := if at8 bs 2 % 16 = 1 then .vector else .vertical
    let unfit : Bool :=
      match mode with
      | .vertical => decide (role1 ≠ .z ∧ role2 ≠ .z ∧ role3 ≠ .z)
      | .vector => decide (role1 = .off ∧ role2 = .off ∧ role3 = .off)
    let held := b.load .stations i.val bs
    held.value.station i =
      { enable := decide (at8 bs 0 ≠ 0), role1 := if unfit then .z else role1, role2 := role2, role3 := role3
        mode := mode, set := (held.value.station i).set, weight := max 1 (min 3 (at8 bs 3 % 16)) } ∧
    (held.value.station i).set.val = min 7 (at8 bs 3 / 16) ∧
    held.clamps =
      (decide (1 < at8 bs 0)).toNat + (decide (3 < at8 bs 1 / 16)).toNat + (decide (3 < at8 bs 1 % 16)).toNat +
        (decide (3 < at8 bs 2 / 16)).toNat + (decide (1 < at8 bs 2 % 16)).toNat +
        (decide (7 < at8 bs 3 / 16)).toNat +
        (decide (at8 bs 3 % 16 = 0 ∨ 3 < at8 bs 3 % 16)).toNat + unfit.toNat) ∧
  (∀ (b : Bank) (n : Fin 8) (bs : List Byte),
    let s := max 2 (min 10 (at8 bs 3))
    let l := max 6 (min 16 (at8 bs 4))
    let rOn := max 16 (min 1023 (at16 bs 5))
    let rOff := max 8 (min 1023 (at16 bs 7))
    let held := b.load .sets n.val bs
    held.value.sets[n] =
      { k := at16 bs 0, g := min 16 (at8 bs 2), s := s, l := max l (s + 3), rOn := rOn, rOff := min rOff rOn
        d := at8 bs 9, m := at16 bs 10, h := at16 bs 12, f := at16 bs 14 } ∧
    held.clamps =
      (decide (16 < at8 bs 2)).toNat + (decide (s ≠ at8 bs 3)).toNat + (decide (l ≠ at8 bs 4)).toNat +
        (decide (rOn ≠ at16 bs 5)).toNat + (decide (rOff ≠ at16 bs 7)).toNat +
        (decide (l < s + 3)).toNat + (decide (rOn < rOff)).toNat) ∧
  (∀ (b : Bank) (i : Station) (bs : List Byte),
    let count := min 15 (at8 bs 0)
    let kept := (List.range count).foldl (fun (x : List Neighbour × Nat) p =>
      let st := at8 bs (1 + 3 * p)
      let sent := at16 bs (2 + 3 * p)
      let moveout := max 1 (min 16383 sent)
      if h : st < 64 then
        if st = i.val ∨ x.1.any (fun y => decide (y.station.val = st)) then (x.1, x.2 + 1)
        else (x.1 ++ [⟨⟨st, h⟩, moveout⟩], x.2 + (decide (moveout ≠ sent)).toNat)
      else (x.1, x.2 + 1)) ([], 0)
    let held := b.load .neighbours i.val bs
    held.value.neighbourList i = kept.1 ∧ held.clamps = (decide (15 < at8 bs 0)).toNat + kept.2) ∧
  (∀ (b : Bank) (n : Nat) (bs : List Byte),
    let held := b.load .params n bs
    held.value.params =
      { quorum := max 2 (min 192 (at16 bs 0)), slack := min 4095 (at16 bs 2), extLength := min 4095 (at16 bs 4)
        extLimit := min 7 (at16 bs 6), span := max 1 (at16 bs 8), captureEnable := decide (at8 bs 10 ≠ 0)
        captureSet := if at8 bs 11 = 1 then .all else .neighbourhood
        pre := min 4095 (at16 bs 12), post := min 4096 (at16 bs 14) } ∧
    held.clamps =
      (decide (at16 bs 0 < 2 ∨ 192 < at16 bs 0)).toNat + (decide (4095 < at16 bs 2)).toNat +
        (decide (4095 < at16 bs 4)).toNat + (decide (7 < at16 bs 6)).toNat + (decide (at16 bs 8 = 0)).toNat +
        (decide (1 < at8 bs 10)).toNat + (decide (1 < at8 bs 11)).toNat + (decide (4095 < at16 bs 12)).toNat +
        (decide (4096 < at16 bs 14)).toNat) ∧
  (∀ (b : Bank) (n : Fin 8), (b.entryBytes .sets n.val).drop 16 = [0, 0]) ∧
  (∀ (b : Bank) (i : Station), (b.entryBytes .neighbours i.val).drop (1 + 3 * (b.neighbourList i).length) =
    (List.replicate (15 - (b.neighbourList i).length) ([0xFF, 0, 0] : List Byte)).flatten) ∧
  (∀ (b : Bank) (t : TableId) (n : Nat) (bs : List Byte), n < t.entries →
    let held := (b.load t n bs).value
    (held.entryBytes t n).length = t.entrySize ∧
      (held.load t n (held.entryBytes t n)).value = held ∧ (held.load t n (held.entryBytes t n)).clamps = 0) ∧
  ∀ bs : List Byte,
    (writeSettings (readSettings bs).value).length = 6 ∧
      (readSettings (writeSettings (readSettings bs).value)).value = (readSettings bs).value ∧
      (readSettings (writeSettings (readSettings bs).value)).clamps = 0

/-- R157 to R160 with R61, R62, R96: SWITCH BANK schedules a switch, and a line that is not LIVE makes it at
once; CANCEL SWITCH withdraws it until a block has switched; a report sets its mark, and the third
completes the switch, after which every block reads the contents that it read before. The CONFIG request comes
behind the unit controller's FAULT requests on their way (R143, log 10). -/
def Obligations.BankSwitchScheduledAndCompleted : Prop :=
  (∀ (s : State) (c : Command), s.canTake c → c.code = 0x09 → c.params.length = 5 →
    (1 < at8 c.params 0 → exec .switchBank s = .next (s.answered c .noSuchTable [])) ∧
    (at8 c.params 0 ≤ 1 → s.ctrl.scheduled.isSome = true →
      exec .switchBank s = .next (s.answered c .switchPending [])) ∧
    (at8 c.params 0 ≤ 1 → s.ctrl.scheduled = none →
      let point := if at8 c.params 0 = 0 then SwitchPoint.atIndex (at32 c.params 1) else .immediate
      let idle : Line → Bool := fun l => !(s.bankLine l).live
      ∃ t, exec .switchBank s = .next t ∧
        (∀ l, t.bankLine l =
          if idle l then { s.bankLine l with inUse := .shadow, switch := none }
          else { s.bankLine l with switch := some point }) ∧
        (∀ i,
          let old := s.bankOf (s.bankLine (lineOf i)).inUse
          t.station i =
            if idle (lineOf i) = false then s.station i
            else if (s.ctrl.shadow.station i).enable = false then
              { s.station i with det := .off, detection := none }
            else if old.station i = s.ctrl.shadow.station i ∧
                old.detectorSet i = s.ctrl.shadow.detectorSet i then s.station i
            else { s.station i with det := .suspended, detection := none }) ∧
        t = { s.answered c .done [] with
          bank := t.bank
          assoc := { s.assoc with switch := some point }
          ctrl := { s.ctrl with
            scheduled := some point, marks := ⟨false, false, false⟩
            reports := s.ctrl.reports ++ (if idle .a then [⟨SwitchBlock.lineA, false⟩] else []) ++
              (if idle .b then [⟨SwitchBlock.lineB, false⟩] else []) } })) ∧
  (∀ (s : State) (c : Command), s.canTake c → c.code = 0x0A → c.params = [] →
    ((s.ctrl.scheduled = none ∨ ∃ b, s.ctrl.marks.get b = true ∨ s.bankInUse b = .shadow) →
      exec .cancelSwitch s = .next (s.answered c .wrongState [])) ∧
    (s.ctrl.scheduled.isSome = true → (∀ b, s.ctrl.marks.get b = false ∧ s.bankInUse b = .active) →
      exec .cancelSwitch s = .next
        { s.answered c .done [] with
          ctrl := { s.ctrl with scheduled := none }
          assoc := { s.assoc with switch := none }
          bank := { s.bank with lines :=
            ⟨{ s.bank.lines.a with switch := none }, { s.bank.lines.b with switch := none }⟩ } })) ∧
  ∀ (s : State) (b : SwitchBlock) (before after : List SwitchReport) (cancelled : Bool),
    s.pins.rstn = true → s.ctrl.reports = before ++ ⟨b, cancelled⟩ :: after → (∀ r ∈ before, r.block ≠ b) →
    ((cancelled = true ∨ s.ctrl.scheduled = none) → exec (.switchedReport b) s = .next
      { s with ctrl := { s.ctrl with reports := before ++ after } }) ∧
    (cancelled = false → s.ctrl.scheduled.isSome = true → (∃ o, o ≠ b ∧ s.ctrl.marks.get o = false) →
      ∃ marks : SwitchedMarks, (∀ o, marks.get o = (s.ctrl.marks.get o || decide (o = b))) ∧
        exec (.switchedReport b) s = .next
          { s with ctrl := { s.ctrl with reports := before ++ after, marks := marks } }) ∧
    (cancelled = false → s.ctrl.scheduled.isSome = true → (∀ o, o ≠ b → s.ctrl.marks.get o = true) →
      let done : State :=
        { s with
          ctrl := { s.ctrl with
            active := s.ctrl.shadow, shadow := s.ctrl.active, generation := s.ctrl.generation + 1
            scheduled := none, marks := ⟨false, false, false⟩, reports := before ++ after }
          assoc := { s.assoc with inUse := .active }
          bank := { s.bank with lines :=
            ⟨{ s.bank.lines.a with inUse := .active }, { s.bank.lines.b with inUse := .active }⟩ } }
      exec (.switchedReport b) s = .next
        (done.lostFaultsArrive.request (.switchComplete (s.ctrl.generation + 1))) ∧
      ∀ o, s.bankInUse o = .shadow → done.bankOf (done.bankInUse o) = s.bankOf (s.bankInUse o))

/-- R166: a selection is a station 0 to 63, or 0xFF for ALL. R126, R127, R131: FETCH; R132: CANCEL READOUT; R107, R133: RELEASE. The premise on numbers is what R105
says of every event table. The model's choices in it: next index and remaining of a readout without a current
entry (log 29), the readout fields without a meaning while IDLE (log 15), and that an entry without a first
copied index is read from the window's start (log 17). -/
def Obligations.EventsFetchedAndReleased : Prop :=
  (∀ (n : Nat) (sel : Selection), readSelection n = some sel ↔
    (n = 0xFF ∧ sel = .all) ∨ ∃ i : Station, n = i.val ∧ sel = .one i) ∧
  ∀ (s : State) (c : Command), s.canTake c → s.numbersOk →
    let cancelled : State :=
      (if s.readout.endStaged then
        { s.answered c .done [] with readout := { s.readout with cancel := true } }
      else
        { s.answered c .done [] with
          readout := { s.readout with cancel := true, current := none, endStaged := true }
          trunk := { (s.answered c .done []).trunk with staged := some .readoutEnd } })
    (c.code = 0x0E → c.params.length = 3 →
      (64 ≤ at8 c.params 2 → at8 c.params 2 ≠ 0xFF →
        exec .fetch s = .next (s.answered c .noSuchTable [])) ∧
      ∀ sel, readSelection (at8 c.params 2) = some sel →
        ((∀ p r, s.record p = some r → r.number ≠ at16 c.params 0) →
          exec .fetch s = .next (s.answered c .noSuchEvent [])) ∧
        ∀ p r, s.record p = some r → r.number = at16 c.params 0 →
          (r.state ≠ .ready → exec .fetch s = .next (s.answered c .wrongState [])) ∧
          (r.state = .ready → s.readout.streaming = true → exec .fetch s = .next
            { s with
              readout := { s.readout with overlap := true }
              trunk := { s.trunk with control := s.trunk.control.tail } }) ∧
          (r.state = .ready → s.readout.streaming = false →
            let chosen := (match sel with
              | .all => r.entries.head?
              | .one st => r.entry st)
            let fresh : Readout :=
              { streaming := true, record := some p, number := r.number, selection := sel, current := none
                nextIndex := 0, remaining := 0, endStaged := false, framesSent := 0, instantsSent := 0
                overlap := false, cancel := false }
            (chosen = none → exec .fetch s = .next
              ({ s.answered c .done [] with readout := fresh }.setRecord p
                (some { r with state := .reading }))) ∧
            ∀ w e, r.capture = some w → chosen = some e → exec .fetch s = .next
              ({ s.answered c .done [] with
                readout := { fresh with
                  current := some e.station
                  nextIndex := (match w.firstCopied e with
                    | some i => i
                    | none => w.start)
                  remaining := e.copied } }.setRecord p (some { r with state := .reading })))) ∧
    (c.code = 0x0F → c.params = [] →
      (s.readout.streaming = false → exec .cancelReadout s = .next (s.answered c .wrongState [])) ∧
      (s.readout.streaming = true → exec .cancelReadout s = .next cancelled)) ∧
    (c.code = 0x10 → c.params.length = 2 →
      ((∀ p r, s.record p = some r → r.number ≠ at16 c.params 0) →
        exec .release s = .next (s.answered c .noSuchEvent [])) ∧
      ∀ p r, s.record p = some r → r.number = at16 c.params 0 →
        let freed : CaptureEngine :=
          { s.capture with
            records := tabulate fun q =>
              if q = p then none
              else (s.record q).map fun x =>
                { x with order := (if r.order < x.order then x.order - 1 else x.order) }
            freeList := s.capture.freeList ++ r.blocks }
        (r.state = .active → exec .release s = .next (s.answered c .wrongState [])) ∧
        ((r.state = .ready ∨ r.state = .filling) → exec .release s = .next
          { s.answered c .done [] with capture := freed }) ∧
        (r.state = .reading → exec .release s = .next
          { cancelled with capture := freed, readout := { cancelled.readout with record := none } }))
end

