-- ==== Sys2Proof/Laws/State.lean ====
section
/-! SUPPORT. What the named updates of the state leave alone: one lemma per field per update, each true
by unfolding, so that no later proof unfolds a record update; and what they make of the part they set. -/

namespace Sys2Proof.Machine

/-! ## setPort -/

@[simp] theorem State.setPort_pins (s : State) (l : Line) (p : LinePort) : (s.setPort l p).pins = s.pins := rfl
@[simp] theorem State.setPort_unitAddress (s : State) (l : Line) (p : LinePort) : (s.setPort l p).unitAddress = s.unitAddress := rfl
@[simp] theorem State.setPort_bank (s : State) (l : Line) (p : LinePort) : (s.setPort l p).bank = s.bank := rfl
@[simp] theorem State.setPort_mem (s : State) (l : Line) (p : LinePort) : (s.setPort l p).mem = s.mem := rfl
@[simp] theorem State.setPort_pickQueue (s : State) (l : Line) (p : LinePort) : (s.setPort l p).pickQueue = s.pickQueue := rfl
@[simp] theorem State.setPort_assoc (s : State) (l : Line) (p : LinePort) : (s.setPort l p).assoc = s.assoc := rfl
@[simp] theorem State.setPort_channel (s : State) (l : Line) (p : LinePort) : (s.setPort l p).channel = s.channel := rfl
@[simp] theorem State.setPort_capture (s : State) (l : Line) (p : LinePort) : (s.setPort l p).capture = s.capture := rfl
@[simp] theorem State.setPort_readout (s : State) (l : Line) (p : LinePort) : (s.setPort l p).readout = s.readout := rfl
@[simp] theorem State.setPort_trunk (s : State) (l : Line) (p : LinePort) : (s.setPort l p).trunk = s.trunk := rfl
@[simp] theorem State.setPort_ctrl (s : State) (l : Line) (p : LinePort) : (s.setPort l p).ctrl = s.ctrl := rfl
@[simp] theorem State.setPort_pending (s : State) (l : Line) (p : LinePort) : (s.setPort l p).pending = s.pending := rfl

/-! ## setBankLine -/

@[simp] theorem State.setBankLine_pins (s : State) (l : Line) (b : BankLine) : (s.setBankLine l b).pins = s.pins := rfl
@[simp] theorem State.setBankLine_unitAddress (s : State) (l : Line) (b : BankLine) : (s.setBankLine l b).unitAddress = s.unitAddress := rfl
@[simp] theorem State.setBankLine_ports (s : State) (l : Line) (b : BankLine) : (s.setBankLine l b).ports = s.ports := rfl
@[simp] theorem State.setBankLine_mem (s : State) (l : Line) (b : BankLine) : (s.setBankLine l b).mem = s.mem := rfl
@[simp] theorem State.setBankLine_pickQueue (s : State) (l : Line) (b : BankLine) : (s.setBankLine l b).pickQueue = s.pickQueue := rfl
@[simp] theorem State.setBankLine_assoc (s : State) (l : Line) (b : BankLine) : (s.setBankLine l b).assoc = s.assoc := rfl
@[simp] theorem State.setBankLine_channel (s : State) (l : Line) (b : BankLine) : (s.setBankLine l b).channel = s.channel := rfl
@[simp] theorem State.setBankLine_capture (s : State) (l : Line) (b : BankLine) : (s.setBankLine l b).capture = s.capture := rfl
@[simp] theorem State.setBankLine_readout (s : State) (l : Line) (b : BankLine) : (s.setBankLine l b).readout = s.readout := rfl
@[simp] theorem State.setBankLine_trunk (s : State) (l : Line) (b : BankLine) : (s.setBankLine l b).trunk = s.trunk := rfl
@[simp] theorem State.setBankLine_ctrl (s : State) (l : Line) (b : BankLine) : (s.setBankLine l b).ctrl = s.ctrl := rfl
@[simp] theorem State.setBankLine_pending (s : State) (l : Line) (b : BankLine) : (s.setBankLine l b).pending = s.pending := rfl

/-! ## mapStations -/

@[simp] theorem State.mapStations_pins (s : State) (f : Station → StationState → StationState) : (s.mapStations f).pins = s.pins := rfl
@[simp] theorem State.mapStations_unitAddress (s : State) (f : Station → StationState → StationState) : (s.mapStations f).unitAddress = s.unitAddress := rfl
@[simp] theorem State.mapStations_ports (s : State) (f : Station → StationState → StationState) : (s.mapStations f).ports = s.ports := rfl
@[simp] theorem State.mapStations_mem (s : State) (f : Station → StationState → StationState) : (s.mapStations f).mem = s.mem := rfl
@[simp] theorem State.mapStations_pickQueue (s : State) (f : Station → StationState → StationState) : (s.mapStations f).pickQueue = s.pickQueue := rfl
@[simp] theorem State.mapStations_assoc (s : State) (f : Station → StationState → StationState) : (s.mapStations f).assoc = s.assoc := rfl
@[simp] theorem State.mapStations_channel (s : State) (f : Station → StationState → StationState) : (s.mapStations f).channel = s.channel := rfl
@[simp] theorem State.mapStations_capture (s : State) (f : Station → StationState → StationState) : (s.mapStations f).capture = s.capture := rfl
@[simp] theorem State.mapStations_readout (s : State) (f : Station → StationState → StationState) : (s.mapStations f).readout = s.readout := rfl
@[simp] theorem State.mapStations_trunk (s : State) (f : Station → StationState → StationState) : (s.mapStations f).trunk = s.trunk := rfl
@[simp] theorem State.mapStations_ctrl (s : State) (f : Station → StationState → StationState) : (s.mapStations f).ctrl = s.ctrl := rfl
@[simp] theorem State.mapStations_pending (s : State) (f : Station → StationState → StationState) : (s.mapStations f).pending = s.pending := rfl

/-! ## setFlag -/

@[simp] theorem State.setFlag_pins (s : State) (f : Flag) : (s.setFlag f).pins = s.pins := rfl
@[simp] theorem State.setFlag_unitAddress (s : State) (f : Flag) : (s.setFlag f).unitAddress = s.unitAddress := rfl
@[simp] theorem State.setFlag_ports (s : State) (f : Flag) : (s.setFlag f).ports = s.ports := rfl
@[simp] theorem State.setFlag_bank (s : State) (f : Flag) : (s.setFlag f).bank = s.bank := rfl
@[simp] theorem State.setFlag_mem (s : State) (f : Flag) : (s.setFlag f).mem = s.mem := rfl
@[simp] theorem State.setFlag_pickQueue (s : State) (f : Flag) : (s.setFlag f).pickQueue = s.pickQueue := rfl
@[simp] theorem State.setFlag_assoc (s : State) (f : Flag) : (s.setFlag f).assoc = s.assoc := rfl
@[simp] theorem State.setFlag_channel (s : State) (f : Flag) : (s.setFlag f).channel = s.channel := rfl
@[simp] theorem State.setFlag_capture (s : State) (f : Flag) : (s.setFlag f).capture = s.capture := rfl
@[simp] theorem State.setFlag_readout (s : State) (f : Flag) : (s.setFlag f).readout = s.readout := rfl
@[simp] theorem State.setFlag_trunk (s : State) (f : Flag) : (s.setFlag f).trunk = s.trunk := rfl
@[simp] theorem State.setFlag_pending (s : State) (f : Flag) : (s.setFlag f).pending = s.pending := rfl

/-! ## sendReport -/

@[simp] theorem State.sendReport_pins (s : State) (b : SwitchBlock) : (s.sendReport b).pins = s.pins := rfl
@[simp] theorem State.sendReport_unitAddress (s : State) (b : SwitchBlock) : (s.sendReport b).unitAddress = s.unitAddress := rfl
@[simp] theorem State.sendReport_ports (s : State) (b : SwitchBlock) : (s.sendReport b).ports = s.ports := rfl
@[simp] theorem State.sendReport_bank (s : State) (b : SwitchBlock) : (s.sendReport b).bank = s.bank := rfl
@[simp] theorem State.sendReport_mem (s : State) (b : SwitchBlock) : (s.sendReport b).mem = s.mem := rfl
@[simp] theorem State.sendReport_pickQueue (s : State) (b : SwitchBlock) : (s.sendReport b).pickQueue = s.pickQueue := rfl
@[simp] theorem State.sendReport_assoc (s : State) (b : SwitchBlock) : (s.sendReport b).assoc = s.assoc := rfl
@[simp] theorem State.sendReport_channel (s : State) (b : SwitchBlock) : (s.sendReport b).channel = s.channel := rfl
@[simp] theorem State.sendReport_capture (s : State) (b : SwitchBlock) : (s.sendReport b).capture = s.capture := rfl
@[simp] theorem State.sendReport_readout (s : State) (b : SwitchBlock) : (s.sendReport b).readout = s.readout := rfl
@[simp] theorem State.sendReport_trunk (s : State) (b : SwitchBlock) : (s.sendReport b).trunk = s.trunk := rfl
@[simp] theorem State.sendReport_pending (s : State) (b : SwitchBlock) : (s.sendReport b).pending = s.pending := rfl

/-! ## setRecord -/

@[simp] theorem State.setRecord_pins (s : State) (p : Fin 32) (r : Option Record) : (s.setRecord p r).pins = s.pins := rfl
@[simp] theorem State.setRecord_unitAddress (s : State) (p : Fin 32) (r : Option Record) : (s.setRecord p r).unitAddress = s.unitAddress := rfl
@[simp] theorem State.setRecord_ports (s : State) (p : Fin 32) (r : Option Record) : (s.setRecord p r).ports = s.ports := rfl
@[simp] theorem State.setRecord_bank (s : State) (p : Fin 32) (r : Option Record) : (s.setRecord p r).bank = s.bank := rfl
@[simp] theorem State.setRecord_mem (s : State) (p : Fin 32) (r : Option Record) : (s.setRecord p r).mem = s.mem := rfl
@[simp] theorem State.setRecord_pickQueue (s : State) (p : Fin 32) (r : Option Record) : (s.setRecord p r).pickQueue = s.pickQueue := rfl
@[simp] theorem State.setRecord_assoc (s : State) (p : Fin 32) (r : Option Record) : (s.setRecord p r).assoc = s.assoc := rfl
@[simp] theorem State.setRecord_channel (s : State) (p : Fin 32) (r : Option Record) : (s.setRecord p r).channel = s.channel := rfl
@[simp] theorem State.setRecord_readout (s : State) (p : Fin 32) (r : Option Record) : (s.setRecord p r).readout = s.readout := rfl
@[simp] theorem State.setRecord_trunk (s : State) (p : Fin 32) (r : Option Record) : (s.setRecord p r).trunk = s.trunk := rfl
@[simp] theorem State.setRecord_ctrl (s : State) (p : Fin 32) (r : Option Record) : (s.setRecord p r).ctrl = s.ctrl := rfl
@[simp] theorem State.setRecord_pending (s : State) (p : Fin 32) (r : Option Record) : (s.setRecord p r).pending = s.pending := rfl

/-! ## returnBlocks -/

@[simp] theorem State.returnBlocks_pins (s : State) (bs : List Nat) : (s.returnBlocks bs).pins = s.pins := rfl
@[simp] theorem State.returnBlocks_unitAddress (s : State) (bs : List Nat) : (s.returnBlocks bs).unitAddress = s.unitAddress := rfl
@[simp] theorem State.returnBlocks_ports (s : State) (bs : List Nat) : (s.returnBlocks bs).ports = s.ports := rfl
@[simp] theorem State.returnBlocks_bank (s : State) (bs : List Nat) : (s.returnBlocks bs).bank = s.bank := rfl
@[simp] theorem State.returnBlocks_mem (s : State) (bs : List Nat) : (s.returnBlocks bs).mem = s.mem := rfl
@[simp] theorem State.returnBlocks_pickQueue (s : State) (bs : List Nat) : (s.returnBlocks bs).pickQueue = s.pickQueue := rfl
@[simp] theorem State.returnBlocks_assoc (s : State) (bs : List Nat) : (s.returnBlocks bs).assoc = s.assoc := rfl
@[simp] theorem State.returnBlocks_channel (s : State) (bs : List Nat) : (s.returnBlocks bs).channel = s.channel := rfl
@[simp] theorem State.returnBlocks_readout (s : State) (bs : List Nat) : (s.returnBlocks bs).readout = s.readout := rfl
@[simp] theorem State.returnBlocks_trunk (s : State) (bs : List Nat) : (s.returnBlocks bs).trunk = s.trunk := rfl
@[simp] theorem State.returnBlocks_ctrl (s : State) (bs : List Nat) : (s.returnBlocks bs).ctrl = s.ctrl := rfl
@[simp] theorem State.returnBlocks_pending (s : State) (bs : List Nat) : (s.returnBlocks bs).pending = s.pending := rfl

/-! ## dropCommand -/

@[simp] theorem State.dropCommand_pins (s : State) : (s.dropCommand).pins = s.pins := rfl
@[simp] theorem State.dropCommand_unitAddress (s : State) : (s.dropCommand).unitAddress = s.unitAddress := rfl
@[simp] theorem State.dropCommand_ports (s : State) : (s.dropCommand).ports = s.ports := rfl
@[simp] theorem State.dropCommand_bank (s : State) : (s.dropCommand).bank = s.bank := rfl
@[simp] theorem State.dropCommand_mem (s : State) : (s.dropCommand).mem = s.mem := rfl
@[simp] theorem State.dropCommand_pickQueue (s : State) : (s.dropCommand).pickQueue = s.pickQueue := rfl
@[simp] theorem State.dropCommand_assoc (s : State) : (s.dropCommand).assoc = s.assoc := rfl
@[simp] theorem State.dropCommand_channel (s : State) : (s.dropCommand).channel = s.channel := rfl
@[simp] theorem State.dropCommand_capture (s : State) : (s.dropCommand).capture = s.capture := rfl
@[simp] theorem State.dropCommand_readout (s : State) : (s.dropCommand).readout = s.readout := rfl
@[simp] theorem State.dropCommand_ctrl (s : State) : (s.dropCommand).ctrl = s.ctrl := rfl
@[simp] theorem State.dropCommand_pending (s : State) : (s.dropCommand).pending = s.pending := rfl

/-! ## setReadout -/

@[simp] theorem State.setReadout_pins (s : State) (r : Readout) : (s.setReadout r).pins = s.pins := rfl
@[simp] theorem State.setReadout_unitAddress (s : State) (r : Readout) : (s.setReadout r).unitAddress = s.unitAddress := rfl
@[simp] theorem State.setReadout_ports (s : State) (r : Readout) : (s.setReadout r).ports = s.ports := rfl
@[simp] theorem State.setReadout_bank (s : State) (r : Readout) : (s.setReadout r).bank = s.bank := rfl
@[simp] theorem State.setReadout_mem (s : State) (r : Readout) : (s.setReadout r).mem = s.mem := rfl
@[simp] theorem State.setReadout_pickQueue (s : State) (r : Readout) : (s.setReadout r).pickQueue = s.pickQueue := rfl
@[simp] theorem State.setReadout_assoc (s : State) (r : Readout) : (s.setReadout r).assoc = s.assoc := rfl
@[simp] theorem State.setReadout_channel (s : State) (r : Readout) : (s.setReadout r).channel = s.channel := rfl
@[simp] theorem State.setReadout_capture (s : State) (r : Readout) : (s.setReadout r).capture = s.capture := rfl
@[simp] theorem State.setReadout_trunk (s : State) (r : Readout) : (s.setReadout r).trunk = s.trunk := rfl
@[simp] theorem State.setReadout_ctrl (s : State) (r : Readout) : (s.setReadout r).ctrl = s.ctrl := rfl
@[simp] theorem State.setReadout_pending (s : State) (r : Readout) : (s.setReadout r).pending = s.pending := rfl

/-! ## setStaged -/

@[simp] theorem State.setStaged_pins (s : State) (d : Option DataFrame) : (s.setStaged d).pins = s.pins := rfl
@[simp] theorem State.setStaged_unitAddress (s : State) (d : Option DataFrame) : (s.setStaged d).unitAddress = s.unitAddress := rfl
@[simp] theorem State.setStaged_ports (s : State) (d : Option DataFrame) : (s.setStaged d).ports = s.ports := rfl
@[simp] theorem State.setStaged_bank (s : State) (d : Option DataFrame) : (s.setStaged d).bank = s.bank := rfl
@[simp] theorem State.setStaged_mem (s : State) (d : Option DataFrame) : (s.setStaged d).mem = s.mem := rfl
@[simp] theorem State.setStaged_pickQueue (s : State) (d : Option DataFrame) : (s.setStaged d).pickQueue = s.pickQueue := rfl
@[simp] theorem State.setStaged_assoc (s : State) (d : Option DataFrame) : (s.setStaged d).assoc = s.assoc := rfl
@[simp] theorem State.setStaged_channel (s : State) (d : Option DataFrame) : (s.setStaged d).channel = s.channel := rfl
@[simp] theorem State.setStaged_capture (s : State) (d : Option DataFrame) : (s.setStaged d).capture = s.capture := rfl
@[simp] theorem State.setStaged_readout (s : State) (d : Option DataFrame) : (s.setStaged d).readout = s.readout := rfl
@[simp] theorem State.setStaged_ctrl (s : State) (d : Option DataFrame) : (s.setStaged d).ctrl = s.ctrl := rfl
@[simp] theorem State.setStaged_pending (s : State) (d : Option DataFrame) : (s.setStaged d).pending = s.pending := rfl

/-! ## dropMessage -/

@[simp] theorem State.dropMessage_pins (s : State) : (s.dropMessage).pins = s.pins := rfl
@[simp] theorem State.dropMessage_unitAddress (s : State) : (s.dropMessage).unitAddress = s.unitAddress := rfl
@[simp] theorem State.dropMessage_ports (s : State) : (s.dropMessage).ports = s.ports := rfl
@[simp] theorem State.dropMessage_bank (s : State) : (s.dropMessage).bank = s.bank := rfl
@[simp] theorem State.dropMessage_mem (s : State) : (s.dropMessage).mem = s.mem := rfl
@[simp] theorem State.dropMessage_pickQueue (s : State) : (s.dropMessage).pickQueue = s.pickQueue := rfl
@[simp] theorem State.dropMessage_assoc (s : State) : (s.dropMessage).assoc = s.assoc := rfl
@[simp] theorem State.dropMessage_capture (s : State) : (s.dropMessage).capture = s.capture := rfl
@[simp] theorem State.dropMessage_readout (s : State) : (s.dropMessage).readout = s.readout := rfl
@[simp] theorem State.dropMessage_trunk (s : State) : (s.dropMessage).trunk = s.trunk := rfl
@[simp] theorem State.dropMessage_ctrl (s : State) : (s.dropMessage).ctrl = s.ctrl := rfl
@[simp] theorem State.dropMessage_pending (s : State) : (s.dropMessage).pending = s.pending := rfl

/-! ## dropEntry -/

@[simp] theorem State.dropEntry_pins (s : State) : (s.dropEntry).pins = s.pins := rfl
@[simp] theorem State.dropEntry_unitAddress (s : State) : (s.dropEntry).unitAddress = s.unitAddress := rfl
@[simp] theorem State.dropEntry_ports (s : State) : (s.dropEntry).ports = s.ports := rfl
@[simp] theorem State.dropEntry_bank (s : State) : (s.dropEntry).bank = s.bank := rfl
@[simp] theorem State.dropEntry_mem (s : State) : (s.dropEntry).mem = s.mem := rfl
@[simp] theorem State.dropEntry_assoc (s : State) : (s.dropEntry).assoc = s.assoc := rfl
@[simp] theorem State.dropEntry_channel (s : State) : (s.dropEntry).channel = s.channel := rfl
@[simp] theorem State.dropEntry_capture (s : State) : (s.dropEntry).capture = s.capture := rfl
@[simp] theorem State.dropEntry_readout (s : State) : (s.dropEntry).readout = s.readout := rfl
@[simp] theorem State.dropEntry_trunk (s : State) : (s.dropEntry).trunk = s.trunk := rfl
@[simp] theorem State.dropEntry_ctrl (s : State) : (s.dropEntry).ctrl = s.ctrl := rfl
@[simp] theorem State.dropEntry_pending (s : State) : (s.dropEntry).pending = s.pending := rfl

/-! ## setCandidate -/

@[simp] theorem State.setCandidate_pins (s : State) (k : Fin 16) (c : Option Candidate) : (s.setCandidate k c).pins = s.pins := rfl
@[simp] theorem State.setCandidate_unitAddress (s : State) (k : Fin 16) (c : Option Candidate) : (s.setCandidate k c).unitAddress = s.unitAddress := rfl
@[simp] theorem State.setCandidate_ports (s : State) (k : Fin 16) (c : Option Candidate) : (s.setCandidate k c).ports = s.ports := rfl
@[simp] theorem State.setCandidate_bank (s : State) (k : Fin 16) (c : Option Candidate) : (s.setCandidate k c).bank = s.bank := rfl
@[simp] theorem State.setCandidate_mem (s : State) (k : Fin 16) (c : Option Candidate) : (s.setCandidate k c).mem = s.mem := rfl
@[simp] theorem State.setCandidate_pickQueue (s : State) (k : Fin 16) (c : Option Candidate) : (s.setCandidate k c).pickQueue = s.pickQueue := rfl
@[simp] theorem State.setCandidate_channel (s : State) (k : Fin 16) (c : Option Candidate) : (s.setCandidate k c).channel = s.channel := rfl
@[simp] theorem State.setCandidate_capture (s : State) (k : Fin 16) (c : Option Candidate) : (s.setCandidate k c).capture = s.capture := rfl
@[simp] theorem State.setCandidate_readout (s : State) (k : Fin 16) (c : Option Candidate) : (s.setCandidate k c).readout = s.readout := rfl
@[simp] theorem State.setCandidate_trunk (s : State) (k : Fin 16) (c : Option Candidate) : (s.setCandidate k c).trunk = s.trunk := rfl
@[simp] theorem State.setCandidate_ctrl (s : State) (k : Fin 16) (c : Option Candidate) : (s.setCandidate k c).ctrl = s.ctrl := rfl
@[simp] theorem State.setCandidate_pending (s : State) (k : Fin 16) (c : Option Candidate) : (s.setCandidate k c).pending = s.pending := rfl

/-! ## send -/

@[simp] theorem State.send_pins (s : State) (m : Message) : (s.send m).pins = s.pins := rfl
@[simp] theorem State.send_unitAddress (s : State) (m : Message) : (s.send m).unitAddress = s.unitAddress := rfl
@[simp] theorem State.send_ports (s : State) (m : Message) : (s.send m).ports = s.ports := rfl
@[simp] theorem State.send_bank (s : State) (m : Message) : (s.send m).bank = s.bank := rfl
@[simp] theorem State.send_mem (s : State) (m : Message) : (s.send m).mem = s.mem := rfl
@[simp] theorem State.send_pickQueue (s : State) (m : Message) : (s.send m).pickQueue = s.pickQueue := rfl
@[simp] theorem State.send_assoc (s : State) (m : Message) : (s.send m).assoc = s.assoc := rfl
@[simp] theorem State.send_capture (s : State) (m : Message) : (s.send m).capture = s.capture := rfl
@[simp] theorem State.send_readout (s : State) (m : Message) : (s.send m).readout = s.readout := rfl
@[simp] theorem State.send_trunk (s : State) (m : Message) : (s.send m).trunk = s.trunk := rfl
@[simp] theorem State.send_ctrl (s : State) (m : Message) : (s.send m).ctrl = s.ctrl := rfl
@[simp] theorem State.send_pending (s : State) (m : Message) : (s.send m).pending = s.pending := rfl

/-! ## transmit -/

@[simp] theorem State.transmit_pins (s : State) (kind : Byte) (payload : List Byte) : (s.transmit kind payload).pins = s.pins := rfl
@[simp] theorem State.transmit_unitAddress (s : State) (kind : Byte) (payload : List Byte) : (s.transmit kind payload).unitAddress = s.unitAddress := rfl
@[simp] theorem State.transmit_ports (s : State) (kind : Byte) (payload : List Byte) : (s.transmit kind payload).ports = s.ports := rfl
@[simp] theorem State.transmit_bank (s : State) (kind : Byte) (payload : List Byte) : (s.transmit kind payload).bank = s.bank := rfl
@[simp] theorem State.transmit_mem (s : State) (kind : Byte) (payload : List Byte) : (s.transmit kind payload).mem = s.mem := rfl
@[simp] theorem State.transmit_pickQueue (s : State) (kind : Byte) (payload : List Byte) : (s.transmit kind payload).pickQueue = s.pickQueue := rfl
@[simp] theorem State.transmit_assoc (s : State) (kind : Byte) (payload : List Byte) : (s.transmit kind payload).assoc = s.assoc := rfl
@[simp] theorem State.transmit_channel (s : State) (kind : Byte) (payload : List Byte) : (s.transmit kind payload).channel = s.channel := rfl
@[simp] theorem State.transmit_capture (s : State) (kind : Byte) (payload : List Byte) : (s.transmit kind payload).capture = s.capture := rfl
@[simp] theorem State.transmit_readout (s : State) (kind : Byte) (payload : List Byte) : (s.transmit kind payload).readout = s.readout := rfl
@[simp] theorem State.transmit_ctrl (s : State) (kind : Byte) (payload : List Byte) : (s.transmit kind payload).ctrl = s.ctrl := rfl
@[simp] theorem State.transmit_pending (s : State) (kind : Byte) (payload : List Byte) : (s.transmit kind payload).pending = s.pending := rfl

/-! ## clearFlags -/

@[simp] theorem State.clearFlags_pins (s : State) : (s.clearFlags).pins = s.pins := rfl
@[simp] theorem State.clearFlags_unitAddress (s : State) : (s.clearFlags).unitAddress = s.unitAddress := rfl
@[simp] theorem State.clearFlags_ports (s : State) : (s.clearFlags).ports = s.ports := rfl
@[simp] theorem State.clearFlags_bank (s : State) : (s.clearFlags).bank = s.bank := rfl
@[simp] theorem State.clearFlags_mem (s : State) : (s.clearFlags).mem = s.mem := rfl
@[simp] theorem State.clearFlags_pickQueue (s : State) : (s.clearFlags).pickQueue = s.pickQueue := rfl
@[simp] theorem State.clearFlags_assoc (s : State) : (s.clearFlags).assoc = s.assoc := rfl
@[simp] theorem State.clearFlags_channel (s : State) : (s.clearFlags).channel = s.channel := rfl
@[simp] theorem State.clearFlags_capture (s : State) : (s.clearFlags).capture = s.capture := rfl
@[simp] theorem State.clearFlags_readout (s : State) : (s.clearFlags).readout = s.readout := rfl
@[simp] theorem State.clearFlags_trunk (s : State) : (s.clearFlags).trunk = s.trunk := rfl
@[simp] theorem State.clearFlags_pending (s : State) : (s.clearFlags).pending = s.pending := rfl

/-! ## setSettings -/

@[simp] theorem State.setSettings_pins (s : State) (x : Settings) : (s.setSettings x).pins = s.pins := rfl
@[simp] theorem State.setSettings_unitAddress (s : State) (x : Settings) : (s.setSettings x).unitAddress = s.unitAddress := rfl
@[simp] theorem State.setSettings_ports (s : State) (x : Settings) : (s.setSettings x).ports = s.ports := rfl
@[simp] theorem State.setSettings_bank (s : State) (x : Settings) : (s.setSettings x).bank = s.bank := rfl
@[simp] theorem State.setSettings_mem (s : State) (x : Settings) : (s.setSettings x).mem = s.mem := rfl
@[simp] theorem State.setSettings_pickQueue (s : State) (x : Settings) : (s.setSettings x).pickQueue = s.pickQueue := rfl
@[simp] theorem State.setSettings_assoc (s : State) (x : Settings) : (s.setSettings x).assoc = s.assoc := rfl
@[simp] theorem State.setSettings_channel (s : State) (x : Settings) : (s.setSettings x).channel = s.channel := rfl
@[simp] theorem State.setSettings_capture (s : State) (x : Settings) : (s.setSettings x).capture = s.capture := rfl
@[simp] theorem State.setSettings_readout (s : State) (x : Settings) : (s.setSettings x).readout = s.readout := rfl
@[simp] theorem State.setSettings_trunk (s : State) (x : Settings) : (s.setSettings x).trunk = s.trunk := rfl
@[simp] theorem State.setSettings_pending (s : State) (x : Settings) : (s.setSettings x).pending = s.pending := rfl

/-! ## setShadow -/

@[simp] theorem State.setShadow_pins (s : State) (b : Bank) : (s.setShadow b).pins = s.pins := rfl
@[simp] theorem State.setShadow_unitAddress (s : State) (b : Bank) : (s.setShadow b).unitAddress = s.unitAddress := rfl
@[simp] theorem State.setShadow_ports (s : State) (b : Bank) : (s.setShadow b).ports = s.ports := rfl
@[simp] theorem State.setShadow_bank (s : State) (b : Bank) : (s.setShadow b).bank = s.bank := rfl
@[simp] theorem State.setShadow_mem (s : State) (b : Bank) : (s.setShadow b).mem = s.mem := rfl
@[simp] theorem State.setShadow_pickQueue (s : State) (b : Bank) : (s.setShadow b).pickQueue = s.pickQueue := rfl
@[simp] theorem State.setShadow_assoc (s : State) (b : Bank) : (s.setShadow b).assoc = s.assoc := rfl
@[simp] theorem State.setShadow_channel (s : State) (b : Bank) : (s.setShadow b).channel = s.channel := rfl
@[simp] theorem State.setShadow_capture (s : State) (b : Bank) : (s.setShadow b).capture = s.capture := rfl
@[simp] theorem State.setShadow_readout (s : State) (b : Bank) : (s.setShadow b).readout = s.readout := rfl
@[simp] theorem State.setShadow_trunk (s : State) (b : Bank) : (s.setShadow b).trunk = s.trunk := rfl
@[simp] theorem State.setShadow_pending (s : State) (b : Bank) : (s.setShadow b).pending = s.pending := rfl

/-! ## postMark -/

@[simp] theorem State.postMark_pins (s : State) (m : LineMark) : (s.postMark m).pins = s.pins := rfl
@[simp] theorem State.postMark_unitAddress (s : State) (m : LineMark) : (s.postMark m).unitAddress = s.unitAddress := rfl
@[simp] theorem State.postMark_ports (s : State) (m : LineMark) : (s.postMark m).ports = s.ports := rfl
@[simp] theorem State.postMark_bank (s : State) (m : LineMark) : (s.postMark m).bank = s.bank := rfl
@[simp] theorem State.postMark_mem (s : State) (m : LineMark) : (s.postMark m).mem = s.mem := rfl
@[simp] theorem State.postMark_assoc (s : State) (m : LineMark) : (s.postMark m).assoc = s.assoc := rfl
@[simp] theorem State.postMark_channel (s : State) (m : LineMark) : (s.postMark m).channel = s.channel := rfl
@[simp] theorem State.postMark_capture (s : State) (m : LineMark) : (s.postMark m).capture = s.capture := rfl
@[simp] theorem State.postMark_readout (s : State) (m : LineMark) : (s.postMark m).readout = s.readout := rfl
@[simp] theorem State.postMark_trunk (s : State) (m : LineMark) : (s.postMark m).trunk = s.trunk := rfl
@[simp] theorem State.postMark_ctrl (s : State) (m : LineMark) : (s.postMark m).ctrl = s.ctrl := rfl
@[simp] theorem State.postMark_pending (s : State) (m : LineMark) : (s.postMark m).pending = s.pending := rfl

/-! ## takeShadow -/

@[simp] theorem State.takeShadow_pins (s : State) (l : Line) : (s.takeShadow l).pins = s.pins := rfl
@[simp] theorem State.takeShadow_unitAddress (s : State) (l : Line) : (s.takeShadow l).unitAddress = s.unitAddress := rfl
@[simp] theorem State.takeShadow_ports (s : State) (l : Line) : (s.takeShadow l).ports = s.ports := rfl
@[simp] theorem State.takeShadow_mem (s : State) (l : Line) : (s.takeShadow l).mem = s.mem := rfl
@[simp] theorem State.takeShadow_pickQueue (s : State) (l : Line) : (s.takeShadow l).pickQueue = s.pickQueue := rfl
@[simp] theorem State.takeShadow_assoc (s : State) (l : Line) : (s.takeShadow l).assoc = s.assoc := rfl
@[simp] theorem State.takeShadow_channel (s : State) (l : Line) : (s.takeShadow l).channel = s.channel := rfl
@[simp] theorem State.takeShadow_capture (s : State) (l : Line) : (s.takeShadow l).capture = s.capture := rfl
@[simp] theorem State.takeShadow_readout (s : State) (l : Line) : (s.takeShadow l).readout = s.readout := rfl
@[simp] theorem State.takeShadow_trunk (s : State) (l : Line) : (s.takeShadow l).trunk = s.trunk := rfl
@[simp] theorem State.takeShadow_pending (s : State) (l : Line) : (s.takeShadow l).pending = s.pending := rfl

/-! ## withdraw -/

@[simp] theorem State.withdraw_pins (s : State) : (s.withdraw).pins = s.pins := rfl
@[simp] theorem State.withdraw_unitAddress (s : State) : (s.withdraw).unitAddress = s.unitAddress := rfl
@[simp] theorem State.withdraw_ports (s : State) : (s.withdraw).ports = s.ports := rfl
@[simp] theorem State.withdraw_mem (s : State) : (s.withdraw).mem = s.mem := rfl
@[simp] theorem State.withdraw_pickQueue (s : State) : (s.withdraw).pickQueue = s.pickQueue := rfl
@[simp] theorem State.withdraw_channel (s : State) : (s.withdraw).channel = s.channel := rfl
@[simp] theorem State.withdraw_capture (s : State) : (s.withdraw).capture = s.capture := rfl
@[simp] theorem State.withdraw_readout (s : State) : (s.withdraw).readout = s.readout := rfl
@[simp] theorem State.withdraw_trunk (s : State) : (s.withdraw).trunk = s.trunk := rfl
@[simp] theorem State.withdraw_pending (s : State) : (s.withdraw).pending = s.pending := rfl

/-! ## removeUnread -/

@[simp] theorem State.removeUnread_pins (s : State) (first last : Nat) : (s.removeUnread first last).pins = s.pins := rfl
@[simp] theorem State.removeUnread_unitAddress (s : State) (first last : Nat) : (s.removeUnread first last).unitAddress = s.unitAddress := rfl
@[simp] theorem State.removeUnread_ports (s : State) (first last : Nat) : (s.removeUnread first last).ports = s.ports := rfl
@[simp] theorem State.removeUnread_mem (s : State) (first last : Nat) : (s.removeUnread first last).mem = s.mem := rfl
@[simp] theorem State.removeUnread_pickQueue (s : State) (first last : Nat) : (s.removeUnread first last).pickQueue = s.pickQueue := rfl
@[simp] theorem State.removeUnread_assoc (s : State) (first last : Nat) : (s.removeUnread first last).assoc = s.assoc := rfl
@[simp] theorem State.removeUnread_channel (s : State) (first last : Nat) : (s.removeUnread first last).channel = s.channel := rfl
@[simp] theorem State.removeUnread_capture (s : State) (first last : Nat) : (s.removeUnread first last).capture = s.capture := rfl
@[simp] theorem State.removeUnread_readout (s : State) (first last : Nat) : (s.removeUnread first last).readout = s.readout := rfl
@[simp] theorem State.removeUnread_trunk (s : State) (first last : Nat) : (s.removeUnread first last).trunk = s.trunk := rfl
@[simp] theorem State.removeUnread_ctrl (s : State) (first last : Nat) : (s.removeUnread first last).ctrl = s.ctrl := rfl
@[simp] theorem State.removeUnread_pending (s : State) (first last : Nat) : (s.removeUnread first last).pending = s.pending := rfl

/-! ## restartRange -/

@[simp] theorem State.restartRange_pins (s : State) (first last : Nat) : (s.restartRange first last).pins = s.pins := rfl
@[simp] theorem State.restartRange_unitAddress (s : State) (first last : Nat) : (s.restartRange first last).unitAddress = s.unitAddress := rfl
@[simp] theorem State.restartRange_ports (s : State) (first last : Nat) : (s.restartRange first last).ports = s.ports := rfl
@[simp] theorem State.restartRange_mem (s : State) (first last : Nat) : (s.restartRange first last).mem = s.mem := rfl
@[simp] theorem State.restartRange_pickQueue (s : State) (first last : Nat) : (s.restartRange first last).pickQueue = s.pickQueue := rfl
@[simp] theorem State.restartRange_assoc (s : State) (first last : Nat) : (s.restartRange first last).assoc = s.assoc := rfl
@[simp] theorem State.restartRange_channel (s : State) (first last : Nat) : (s.restartRange first last).channel = s.channel := rfl
@[simp] theorem State.restartRange_capture (s : State) (first last : Nat) : (s.restartRange first last).capture = s.capture := rfl
@[simp] theorem State.restartRange_readout (s : State) (first last : Nat) : (s.restartRange first last).readout = s.readout := rfl
@[simp] theorem State.restartRange_trunk (s : State) (first last : Nat) : (s.restartRange first last).trunk = s.trunk := rfl
@[simp] theorem State.restartRange_ctrl (s : State) (first last : Nat) : (s.restartRange first last).ctrl = s.ctrl := rfl
@[simp] theorem State.restartRange_pending (s : State) (first last : Nat) : (s.restartRange first last).pending = s.pending := rfl

/-! ## dropPending -/

@[simp] theorem State.dropPending_pins (s : State) : (s.dropPending).pins = s.pins := rfl
@[simp] theorem State.dropPending_unitAddress (s : State) : (s.dropPending).unitAddress = s.unitAddress := rfl
@[simp] theorem State.dropPending_ports (s : State) : (s.dropPending).ports = s.ports := rfl
@[simp] theorem State.dropPending_bank (s : State) : (s.dropPending).bank = s.bank := rfl
@[simp] theorem State.dropPending_mem (s : State) : (s.dropPending).mem = s.mem := rfl
@[simp] theorem State.dropPending_pickQueue (s : State) : (s.dropPending).pickQueue = s.pickQueue := rfl
@[simp] theorem State.dropPending_assoc (s : State) : (s.dropPending).assoc = s.assoc := rfl
@[simp] theorem State.dropPending_channel (s : State) : (s.dropPending).channel = s.channel := rfl
@[simp] theorem State.dropPending_capture (s : State) : (s.dropPending).capture = s.capture := rfl
@[simp] theorem State.dropPending_readout (s : State) : (s.dropPending).readout = s.readout := rfl
@[simp] theorem State.dropPending_trunk (s : State) : (s.dropPending).trunk = s.trunk := rfl
@[simp] theorem State.dropPending_ctrl (s : State) : (s.dropPending).ctrl = s.ctrl := rfl
/-! ## One of each line -/

@[simp] theorem PerLine.get_set_same {α : Type} (p : PerLine α) (l : Line) (x : α) : (p.set l x).get l = x := by
  cases l <;> rfl

theorem PerLine.get_set_other {α : Type} (p : PerLine α) {l m : Line} (x : α) (h : m ≠ l) :
    (p.set l x).get m = p.get m := by
  cases l <;> cases m <;> first | rfl | exact absurd rfl h

@[simp] theorem PerLine.set_set {α : Type} (p : PerLine α) (l : Line) (x y : α) : (p.set l x).set l y = p.set l y := by
  cases l <;> rfl

@[simp] theorem PerLine.set_get {α : Type} (p : PerLine α) (l : Line) : p.set l (p.get l) = p := by cases l <;> rfl

theorem PerLine.ext_get {α : Type} {p q : PerLine α} (h : ∀ l, p.get l = q.get l) : p = q := by
  cases p
  cases q
  have ha := h .a
  have hb := h .b
  simp only [PerLine.get] at ha hb
  simp only [ha, hb]

@[simp] theorem State.setPort_port_same (s : State) (l : Line) (p : LinePort) : (s.setPort l p).port l = p :=
  PerLine.get_set_same _ _ _

theorem State.setPort_port_other (s : State) {l m : Line} (p : LinePort) (h : m ≠ l) :
    (s.setPort l p).port m = s.port m := PerLine.get_set_other _ _ h

@[simp] theorem State.setPort_setPort (s : State) (l : Line) (p q : LinePort) :
    (s.setPort l p).setPort l q = s.setPort l q := by simp [State.setPort]

@[simp] theorem State.setPort_self (s : State) (l : Line) : s.setPort l (s.port l) = s := by
  simp [State.setPort, State.port]

@[simp] theorem State.setBankLine_bankLine_same (s : State) (l : Line) (b : BankLine) :
    (s.setBankLine l b).bankLine l = b := PerLine.get_set_same _ _ _

theorem State.setBankLine_bankLine_other (s : State) {l m : Line} (b : BankLine) (h : m ≠ l) :
    (s.setBankLine l b).bankLine m = s.bankLine m := PerLine.get_set_other _ _ h

@[simp] theorem State.setBankLine_station (s : State) (l : Line) (b : BankLine) (i : Station) :
    (s.setBankLine l b).station i = s.station i := rfl

@[simp] theorem State.mapStations_bankLine (s : State) (f : Station → StationState → StationState) (l : Line) :
    (s.mapStations f).bankLine l = s.bankLine l := rfl

/-! ## Tables -/

@[simp] theorem tabulate_get {α : Type} {n : Nat} (g : Fin n → α) (i : Nat) (h : i < n) :
    (tabulate g)[i] = g ⟨i, h⟩ := by
  simp only [tabulate]
  rw [Vector.getElem_mk]
  simp

@[simp] theorem State.mapStations_station (s : State) (f : Station → StationState → StationState) (i : Station) :
    (s.mapStations f).station i = f i (s.station i) := by
  simp [State.mapStations, State.station]

@[simp] theorem State.setRecord_record_same (s : State) (p : Fin 32) (r : Option Record) :
    (s.setRecord p r).record p = r := by simp [State.setRecord, State.record]

theorem State.setRecord_record_other (s : State) {p q : Fin 32} (r : Option Record) (h : q ≠ p) :
    (s.setRecord p r).record q = s.record q := by
  have h' : ¬ (p.val = q.val) := fun e => h (Fin.ext e.symm)
  simp [State.setRecord, State.record, h']

theorem State.setRecord_record (s : State) (p q : Fin 32) (r : Option Record) :
    (s.setRecord p r).record q = if q = p then r else s.record q := by
  by_cases h : q = p
  · subst h
    simp
  · simp [State.setRecord_record_other s r h, h]

@[simp] theorem State.returnBlocks_record (s : State) (bs : List Nat) (p : Fin 32) :
    (s.returnBlocks bs).record p = s.record p := rfl

@[simp] theorem State.returnBlocks_freeList (s : State) (bs : List Nat) :
    (s.returnBlocks bs).capture.freeList = s.capture.freeList ++ bs := rfl

@[simp] theorem State.setRecord_freeList (s : State) (p : Fin 32) (r : Option Record) :
    (s.setRecord p r).capture.freeList = s.capture.freeList := rfl

@[simp] theorem State.setRecord_map (s : State) (p : Fin 32) (r : Option Record) :
    (s.setRecord p r).capture.map = s.capture.map := rfl

@[simp] theorem State.setRecord_nextNumber (s : State) (p : Fin 32) (r : Option Record) :
    (s.setRecord p r).capture.nextNumber = s.capture.nextNumber := rfl

@[simp] theorem State.returnBlocks_map (s : State) (bs : List Nat) :
    (s.returnBlocks bs).capture.map = s.capture.map := rfl

@[simp] theorem State.returnBlocks_nextNumber (s : State) (bs : List Nat) :
    (s.returnBlocks bs).capture.nextNumber = s.capture.nextNumber := rfl

theorem State.setCandidate_candidate (s : State) (k j : Fin 16) (c : Option Candidate) :
    (s.setCandidate k c).candidate j = if j = k then c else s.candidate j := by
  by_cases h : j = k
  · subst h
    simp [State.setCandidate, State.candidate]
  · have h' : ¬ (k.val = j.val) := fun e => h (Fin.ext e.symm)
    simp [State.setCandidate, State.candidate, h, h']

@[simp] theorem State.send_channel (s : State) (m : Message) : (s.send m).channel = s.channel ++ [m] := rfl

@[simp] theorem State.setReadout_readout (s : State) (r : Readout) : (s.setReadout r).readout = r := rfl

@[simp] theorem State.setStaged_staged (s : State) (d : Option DataFrame) : (s.setStaged d).trunk.staged = d := rfl

end Sys2Proof.Machine
end

