-- ==== Sys2Proof/Laws/Notices.lean ====
section
/-! SUPPORT. The notice path and the flags: what a report and a request can do, said once (they append
at most one NOTICE frame within the 16 places and raise flags), and that they do nothing else. -/

namespace Sys2Proof.Machine

/-- The state with another NOTICE queue, other flags and other FAULT requests on their way. -/
def State.withNotices (s : State) (ns : List NoticeFrame) (fl : Flags) (lf : List Byte) : State :=
  { s with trunk := { s.trunk with notice := ns }, ctrl := { s.ctrl with flags := fl, lostFaults := lf } }

/-- A NOTICE queue grows at its tail, and never beyond 16 frames by growing. -/
def noticesGrow (old new : List NoticeFrame) : Prop := old <+: new ∧ new.length ≤ max old.length 16

theorem noticesGrow.refl (q : List NoticeFrame) : noticesGrow q q := ⟨List.prefix_refl q, Nat.le_max_left _ _⟩

theorem noticesGrow.trans {a b c : List NoticeFrame} (h : noticesGrow a b) (h' : noticesGrow b c) :
    noticesGrow a c := by
  refine ⟨h.1.trans h'.1, ?_⟩
  have h1 := h.2
  have h2 := h'.2
  omega

/-- Flags only rise. -/
def flagsRise (old new : Flags) : Prop := ∀ f, old.get f = true → new.get f = true

theorem flagsRise.refl (x : Flags) : flagsRise x x := fun _ h => h

theorem flagsRise.trans {a b c : Flags} (h : flagsRise a b) (h' : flagsRise b c) : flagsRise a c :=
  fun f hf => h' f (h f hf)

theorem Flags.raise_get_same (x : Flags) (f : Flag) : (x.raise f).get f = true := by cases f <;> rfl

theorem Flags.raise_get_other (x : Flags) {f g : Flag} (h : g ≠ f) : (x.raise f).get g = x.get g := by
  cases f <;> cases g <;> first | rfl | exact absurd rfl h

theorem flagsRise.raise (x : Flags) (f : Flag) : flagsRise x (x.raise f) := fun g hg => by
  by_cases h : g = f
  · rw [h]
    exact Flags.raise_get_same x f
  · rw [Flags.raise_get_other x h]
    exact hg

@[simp] theorem State.withNotices_self (s : State) : s.withNotices s.trunk.notice s.ctrl.flags s.ctrl.lostFaults = s := rfl

@[simp] theorem State.withNotices_withNotices (s : State) (ns ns' : List NoticeFrame) (fl fl' : Flags)
    (lf lf' : List Byte) : (s.withNotices ns fl lf).withNotices ns' fl' lf' = s.withNotices ns' fl' lf' := rfl

@[simp] theorem State.withNotices_notice (s : State) (ns : List NoticeFrame) (fl : Flags) (lf : List Byte) :
    (s.withNotices ns fl lf).trunk.notice = ns := rfl

@[simp] theorem State.withNotices_flags (s : State) (ns : List NoticeFrame) (fl : Flags) (lf : List Byte) :
    (s.withNotices ns fl lf).ctrl.flags = fl := rfl

@[simp] theorem State.withNotices_lostFaults (s : State) (ns : List NoticeFrame) (fl : Flags) (lf : List Byte) :
    (s.withNotices ns fl lf).ctrl.lostFaults = lf := rfl

@[simp] theorem State.withNotices_pins (s : State) (ns : List NoticeFrame) (fl : Flags) (lf : List Byte) :
    (s.withNotices ns fl lf).pins = s.pins := by rfl
@[simp] theorem State.withNotices_unitAddress (s : State) (ns : List NoticeFrame) (fl : Flags) (lf : List Byte) :
    (s.withNotices ns fl lf).unitAddress = s.unitAddress := by rfl
@[simp] theorem State.withNotices_ports (s : State) (ns : List NoticeFrame) (fl : Flags) (lf : List Byte) :
    (s.withNotices ns fl lf).ports = s.ports := by rfl
@[simp] theorem State.withNotices_bank (s : State) (ns : List NoticeFrame) (fl : Flags) (lf : List Byte) :
    (s.withNotices ns fl lf).bank = s.bank := by rfl
@[simp] theorem State.withNotices_mem (s : State) (ns : List NoticeFrame) (fl : Flags) (lf : List Byte) :
    (s.withNotices ns fl lf).mem = s.mem := by rfl
@[simp] theorem State.withNotices_pickQueue (s : State) (ns : List NoticeFrame) (fl : Flags) (lf : List Byte) :
    (s.withNotices ns fl lf).pickQueue = s.pickQueue := by rfl
@[simp] theorem State.withNotices_assoc (s : State) (ns : List NoticeFrame) (fl : Flags) (lf : List Byte) :
    (s.withNotices ns fl lf).assoc = s.assoc := by rfl
@[simp] theorem State.withNotices_channel (s : State) (ns : List NoticeFrame) (fl : Flags) (lf : List Byte) :
    (s.withNotices ns fl lf).channel = s.channel := by rfl
@[simp] theorem State.withNotices_capture (s : State) (ns : List NoticeFrame) (fl : Flags) (lf : List Byte) :
    (s.withNotices ns fl lf).capture = s.capture := by rfl
@[simp] theorem State.withNotices_readout (s : State) (ns : List NoticeFrame) (fl : Flags) (lf : List Byte) :
    (s.withNotices ns fl lf).readout = s.readout := by rfl
@[simp] theorem State.withNotices_pending (s : State) (ns : List NoticeFrame) (fl : Flags) (lf : List Byte) :
    (s.withNotices ns fl lf).pending = s.pending := by rfl
@[simp] theorem State.withNotices_trunk_rx (s : State) (ns : List NoticeFrame) (fl : Flags) (lf : List Byte) :
    (s.withNotices ns fl lf).trunk.rx = s.trunk.rx := by rfl
@[simp] theorem State.withNotices_trunk_control (s : State) (ns : List NoticeFrame) (fl : Flags) (lf : List Byte) :
    (s.withNotices ns fl lf).trunk.control = s.trunk.control := by rfl
@[simp] theorem State.withNotices_trunk_pass (s : State) (ns : List NoticeFrame) (fl : Flags) (lf : List Byte) :
    (s.withNotices ns fl lf).trunk.pass = s.trunk.pass := by rfl
@[simp] theorem State.withNotices_trunk_reply (s : State) (ns : List NoticeFrame) (fl : Flags) (lf : List Byte) :
    (s.withNotices ns fl lf).trunk.reply = s.trunk.reply := by rfl
@[simp] theorem State.withNotices_trunk_staged (s : State) (ns : List NoticeFrame) (fl : Flags) (lf : List Byte) :
    (s.withNotices ns fl lf).trunk.staged = s.trunk.staged := by rfl
@[simp] theorem State.withNotices_trunk_tx (s : State) (ns : List NoticeFrame) (fl : Flags) (lf : List Byte) :
    (s.withNotices ns fl lf).trunk.tx = s.trunk.tx := by rfl
@[simp] theorem State.withNotices_ctrl_settings (s : State) (ns : List NoticeFrame) (fl : Flags) (lf : List Byte) :
    (s.withNotices ns fl lf).ctrl.settings = s.ctrl.settings := by rfl
@[simp] theorem State.withNotices_ctrl_active (s : State) (ns : List NoticeFrame) (fl : Flags) (lf : List Byte) :
    (s.withNotices ns fl lf).ctrl.active = s.ctrl.active := by rfl
@[simp] theorem State.withNotices_ctrl_shadow (s : State) (ns : List NoticeFrame) (fl : Flags) (lf : List Byte) :
    (s.withNotices ns fl lf).ctrl.shadow = s.ctrl.shadow := by rfl
@[simp] theorem State.withNotices_ctrl_scheduled (s : State) (ns : List NoticeFrame) (fl : Flags) (lf : List Byte) :
    (s.withNotices ns fl lf).ctrl.scheduled = s.ctrl.scheduled := by rfl
@[simp] theorem State.withNotices_ctrl_marks (s : State) (ns : List NoticeFrame) (fl : Flags) (lf : List Byte) :
    (s.withNotices ns fl lf).ctrl.marks = s.ctrl.marks := by rfl
@[simp] theorem State.withNotices_ctrl_generation (s : State) (ns : List NoticeFrame) (fl : Flags) (lf : List Byte) :
    (s.withNotices ns fl lf).ctrl.generation = s.ctrl.generation := by rfl
@[simp] theorem State.withNotices_ctrl_reports (s : State) (ns : List NoticeFrame) (fl : Flags) (lf : List Byte) :
    (s.withNotices ns fl lf).ctrl.reports = s.ctrl.reports := by rfl

/-- Offering a notice appends at most its frame, within 16. -/
theorem State.offerNotice_spec (s : State) (n : Notice) :
    ∃ ns, s.offerNotice n = s.withNotices ns s.ctrl.flags s.ctrl.lostFaults ∧ noticesGrow s.trunk.notice ns := by
  unfold State.offerNotice
  split
  · rename_i h
    refine ⟨s.trunk.notice ++ [n.frame s.unitAddress], rfl, List.prefix_append _ _, ?_⟩
    have hl : s.trunk.notice.length < 16 := by
      simp only [Bool.and_eq_true, decide_eq_true_eq] at h
      exact h.2
    simp only [List.length_append, List.length_cons, List.length_nil]
    omega
  · exact ⟨s.trunk.notice, rfl, noticesGrow.refl _⟩

/-- R143, R145: a FAULT request judged appends at most one frame, raises at most NOTICE_LOST, and changes
nothing else. -/
theorem State.judgeFault_spec (s : State) (n : Notice) :
    ∃ ns fl, s.judgeFault n = s.withNotices ns fl s.ctrl.lostFaults ∧ noticesGrow s.trunk.notice ns ∧
      flagsRise s.ctrl.flags fl := by
  unfold State.judgeFault
  split
  · exact ⟨s.trunk.notice, s.ctrl.flags.raise .noticeLost, rfl, noticesGrow.refl _, flagsRise.raise _ _⟩
  · obtain ⟨ns, he, hg⟩ := State.offerNotice_spec s n
    exact ⟨ns, s.ctrl.flags, he, hg, flagsRise.refl _⟩

/-- Several FAULT requests judged in turn do what each does. -/
theorem State.judgeFaults_spec (ds : List Byte) : ∀ s : State, ∃ ns fl,
    ds.foldl (fun t detail => t.judgeFault (.flagRaised .noticeLost detail)) s = s.withNotices ns fl s.ctrl.lostFaults ∧
      noticesGrow s.trunk.notice ns ∧ flagsRise s.ctrl.flags fl := by
  induction ds with
  | nil => exact fun s => ⟨_, _, (State.withNotices_self s).symm, noticesGrow.refl _, flagsRise.refl _⟩
  | cons d rest ih =>
    intro s
    obtain ⟨ns, fl, he, hg, hr⟩ := State.judgeFault_spec s (.flagRaised .noticeLost d)
    obtain ⟨ns', fl', he', hg', hr'⟩ := ih (s.withNotices ns fl s.ctrl.lostFaults)
    refine ⟨ns', fl', ?_, hg.trans hg', hr.trans hr'⟩
    rw [List.foldl_cons, he, he']
    rfl

/-- R143: the arrival of every FAULT request on its way appends frames within the 16 places, raises at most
NOTICE_LOST, leaves none on its way, and changes nothing else. -/
theorem State.lostFaultsArrive_spec (s : State) :
    ∃ ns fl, s.lostFaultsArrive = s.withNotices ns fl [] ∧ noticesGrow s.trunk.notice ns ∧
      flagsRise s.ctrl.flags fl := by
  obtain ⟨ns, fl, he, hg, hr⟩ :=
    State.judgeFaults_spec s.ctrl.lostFaults { s with ctrl := { s.ctrl with lostFaults := [] } }
  exact ⟨ns, fl, he, hg, hr⟩

/-- R143: with no request on its way nothing arrives. -/
theorem State.lostFaultsArrive_nil (s : State) (h : s.ctrl.lostFaults = []) : s.lostFaultsArrive = s := by
  unfold State.lostFaultsArrive
  rw [h, List.foldl_nil, ← h]

/-- R143, R145: a report appends frames within the 16 places, raises its flag, leaves the FAULT requests on
their way or lets all of them arrive, and changes nothing else. -/
theorem State.report_spec (s : State) (f : Flag) (detail : Byte) :
    ∃ ns fl lf, s.report f detail = s.withNotices ns fl lf ∧ noticesGrow s.trunk.notice ns ∧
      flagsRise s.ctrl.flags fl ∧ fl.get f = true ∧ (lf = s.ctrl.lostFaults ∨ lf = []) := by
  unfold State.report
  split
  · rename_i h
    exact ⟨s.trunk.notice, s.ctrl.flags, _, rfl, noticesGrow.refl _, flagsRise.refl _, h, .inl rfl⟩
  · obtain ⟨ns, fl, he, hg, hr⟩ := State.lostFaultsArrive_spec (s.setFlag f)
    obtain ⟨ns', fl', he', hg', hr'⟩ := State.judgeFault_spec (s.setFlag f).lostFaultsArrive (.flagRaised f detail)
    rw [he] at he' hg' hr'
    refine ⟨ns', fl', [], ?_, hg.trans hg', (flagsRise.raise _ _).trans (hr.trans hr'),
      hr' _ (hr _ (Flags.raise_get_same _ _)), .inr rfl⟩
    rw [he, he']
    rfl

/-- R143: a request appends at most one frame, may raise flags, may send a FAULT request on its way behind
those that are, and changes nothing else. -/
theorem State.request_spec (s : State) (n : Notice) :
    ∃ ns fl lf, s.request n = s.withNotices ns fl lf ∧ noticesGrow s.trunk.notice ns ∧
      flagsRise s.ctrl.flags fl ∧ s.ctrl.lostFaults <+: lf := by
  unfold State.request
  split
  · unfold State.noticeLost
    split
    · exact ⟨_, _, _, (State.withNotices_self s).symm, noticesGrow.refl _, flagsRise.refl _, List.prefix_refl _⟩
    · exact ⟨s.trunk.notice, _, _, rfl, noticesGrow.refl _, flagsRise.raise _ _, List.prefix_append _ _⟩
  · obtain ⟨ns, he, hg⟩ := State.offerNotice_spec s n
    exact ⟨ns, s.ctrl.flags, s.ctrl.lostFaults, he, hg, flagsRise.refl _, List.prefix_refl _⟩

/-- Several requests do what each does. -/
theorem State.requestAll_spec (ns : List Notice) : ∀ s : State, ∃ q fl lf, s.requestAll ns = s.withNotices q fl lf ∧
    noticesGrow s.trunk.notice q ∧ flagsRise s.ctrl.flags fl ∧ s.ctrl.lostFaults <+: lf := by
  induction ns with
  | nil => exact fun s => ⟨_, _, _, (State.withNotices_self s).symm, noticesGrow.refl _, flagsRise.refl _,
      List.prefix_refl _⟩
  | cons n rest ih =>
    intro s
    obtain ⟨q, fl, lf, he, hg, hr, hl⟩ := State.request_spec s n
    obtain ⟨q', fl', lf', he', hg', hr', hl'⟩ := ih (s.withNotices q fl lf)
    refine ⟨q', fl', lf', ?_, hg.trans hg', hr.trans hr', hl.trans hl'⟩
    show (s.request n).requestAll rest = _
    rw [he, he']
    rfl

/-- R145: the arrival of a FAULT request of NOTICE_LOST appends at most one frame, raises at most
NOTICE_LOST, removes the request that arrived, and changes nothing else. -/
theorem State.lostFaultArrives_spec (s : State) :
    ∃ ns fl, s.lostFaultArrives = s.withNotices ns fl s.ctrl.lostFaults.tail ∧ noticesGrow s.trunk.notice ns ∧
      flagsRise s.ctrl.flags fl := by
  unfold State.lostFaultArrives
  split
  · rename_i h
    refine ⟨s.trunk.notice, s.ctrl.flags, ?_, noticesGrow.refl _, flagsRise.refl _⟩
    rw [h, List.tail_nil, ← h]
    rfl
  · rename_i detail rest h
    obtain ⟨ns, fl, he, hg, hr⟩ := State.judgeFault_spec
      { s with ctrl := { s.ctrl with lostFaults := rest } } (.flagRaised .noticeLost detail)
    refine ⟨ns, fl, ?_, hg, hr⟩
    rw [he, h]
    rfl

/-- What a step without a command can do. -/
theorem State.idle_spec (s : State) :
    ∃ ns fl lf, s.idle = s.withNotices ns fl lf ∧ noticesGrow s.trunk.notice ns ∧ flagsRise s.ctrl.flags fl := by
  unfold State.idle
  split
  · obtain ⟨ns, fl, he, hg, hr⟩ := State.lostFaultArrives_spec s
    exact ⟨ns, fl, _, he, hg, hr⟩
  · exact ⟨_, _, _, (State.withNotices_self s).symm, noticesGrow.refl _, flagsRise.refl _⟩

@[simp] theorem State.offerNotice_pins (s : State) (n : Notice) :
    (s.offerNotice n).pins = s.pins := by
  obtain ⟨ns, he, _⟩ := State.offerNotice_spec s n
  rw [he]
  rfl
@[simp] theorem State.offerNotice_unitAddress (s : State) (n : Notice) :
    (s.offerNotice n).unitAddress = s.unitAddress := by
  obtain ⟨ns, he, _⟩ := State.offerNotice_spec s n
  rw [he]
  rfl
@[simp] theorem State.offerNotice_ports (s : State) (n : Notice) :
    (s.offerNotice n).ports = s.ports := by
  obtain ⟨ns, he, _⟩ := State.offerNotice_spec s n
  rw [he]
  rfl
@[simp] theorem State.offerNotice_bank (s : State) (n : Notice) :
    (s.offerNotice n).bank = s.bank := by
  obtain ⟨ns, he, _⟩ := State.offerNotice_spec s n
  rw [he]
  rfl
@[simp] theorem State.offerNotice_mem (s : State) (n : Notice) :
    (s.offerNotice n).mem = s.mem := by
  obtain ⟨ns, he, _⟩ := State.offerNotice_spec s n
  rw [he]
  rfl
@[simp] theorem State.offerNotice_pickQueue (s : State) (n : Notice) :
    (s.offerNotice n).pickQueue = s.pickQueue := by
  obtain ⟨ns, he, _⟩ := State.offerNotice_spec s n
  rw [he]
  rfl
@[simp] theorem State.offerNotice_assoc (s : State) (n : Notice) :
    (s.offerNotice n).assoc = s.assoc := by
  obtain ⟨ns, he, _⟩ := State.offerNotice_spec s n
  rw [he]
  rfl
@[simp] theorem State.offerNotice_channel (s : State) (n : Notice) :
    (s.offerNotice n).channel = s.channel := by
  obtain ⟨ns, he, _⟩ := State.offerNotice_spec s n
  rw [he]
  rfl
@[simp] theorem State.offerNotice_capture (s : State) (n : Notice) :
    (s.offerNotice n).capture = s.capture := by
  obtain ⟨ns, he, _⟩ := State.offerNotice_spec s n
  rw [he]
  rfl
@[simp] theorem State.offerNotice_readout (s : State) (n : Notice) :
    (s.offerNotice n).readout = s.readout := by
  obtain ⟨ns, he, _⟩ := State.offerNotice_spec s n
  rw [he]
  rfl
@[simp] theorem State.offerNotice_pending (s : State) (n : Notice) :
    (s.offerNotice n).pending = s.pending := by
  obtain ⟨ns, he, _⟩ := State.offerNotice_spec s n
  rw [he]
  rfl
@[simp] theorem State.offerNotice_trunk_rx (s : State) (n : Notice) :
    (s.offerNotice n).trunk.rx = s.trunk.rx := by
  obtain ⟨ns, he, _⟩ := State.offerNotice_spec s n
  rw [he]
  rfl
@[simp] theorem State.offerNotice_trunk_control (s : State) (n : Notice) :
    (s.offerNotice n).trunk.control = s.trunk.control := by
  obtain ⟨ns, he, _⟩ := State.offerNotice_spec s n
  rw [he]
  rfl
@[simp] theorem State.offerNotice_trunk_pass (s : State) (n : Notice) :
    (s.offerNotice n).trunk.pass = s.trunk.pass := by
  obtain ⟨ns, he, _⟩ := State.offerNotice_spec s n
  rw [he]
  rfl
@[simp] theorem State.offerNotice_trunk_reply (s : State) (n : Notice) :
    (s.offerNotice n).trunk.reply = s.trunk.reply := by
  obtain ⟨ns, he, _⟩ := State.offerNotice_spec s n
  rw [he]
  rfl
@[simp] theorem State.offerNotice_trunk_staged (s : State) (n : Notice) :
    (s.offerNotice n).trunk.staged = s.trunk.staged := by
  obtain ⟨ns, he, _⟩ := State.offerNotice_spec s n
  rw [he]
  rfl
@[simp] theorem State.offerNotice_trunk_tx (s : State) (n : Notice) :
    (s.offerNotice n).trunk.tx = s.trunk.tx := by
  obtain ⟨ns, he, _⟩ := State.offerNotice_spec s n
  rw [he]
  rfl
@[simp] theorem State.offerNotice_ctrl_settings (s : State) (n : Notice) :
    (s.offerNotice n).ctrl.settings = s.ctrl.settings := by
  obtain ⟨ns, he, _⟩ := State.offerNotice_spec s n
  rw [he]
  rfl
@[simp] theorem State.offerNotice_ctrl_active (s : State) (n : Notice) :
    (s.offerNotice n).ctrl.active = s.ctrl.active := by
  obtain ⟨ns, he, _⟩ := State.offerNotice_spec s n
  rw [he]
  rfl
@[simp] theorem State.offerNotice_ctrl_shadow (s : State) (n : Notice) :
    (s.offerNotice n).ctrl.shadow = s.ctrl.shadow := by
  obtain ⟨ns, he, _⟩ := State.offerNotice_spec s n
  rw [he]
  rfl
@[simp] theorem State.offerNotice_ctrl_scheduled (s : State) (n : Notice) :
    (s.offerNotice n).ctrl.scheduled = s.ctrl.scheduled := by
  obtain ⟨ns, he, _⟩ := State.offerNotice_spec s n
  rw [he]
  rfl
@[simp] theorem State.offerNotice_ctrl_marks (s : State) (n : Notice) :
    (s.offerNotice n).ctrl.marks = s.ctrl.marks := by
  obtain ⟨ns, he, _⟩ := State.offerNotice_spec s n
  rw [he]
  rfl
@[simp] theorem State.offerNotice_ctrl_generation (s : State) (n : Notice) :
    (s.offerNotice n).ctrl.generation = s.ctrl.generation := by
  obtain ⟨ns, he, _⟩ := State.offerNotice_spec s n
  rw [he]
  rfl
@[simp] theorem State.offerNotice_ctrl_reports (s : State) (n : Notice) :
    (s.offerNotice n).ctrl.reports = s.ctrl.reports := by
  obtain ⟨ns, he, _⟩ := State.offerNotice_spec s n
  rw [he]
  rfl
@[simp] theorem State.offerNotice_ctrl_lostFaults (s : State) (n : Notice) :
    (s.offerNotice n).ctrl.lostFaults = s.ctrl.lostFaults := by
  obtain ⟨ns, he, _⟩ := State.offerNotice_spec s n
  rw [he]
  rfl
@[simp] theorem State.report_pins (s : State) (f : Flag) (d : Byte) :
    (s.report f d).pins = s.pins := by
  obtain ⟨ns, fl, lf, he, _⟩ := State.report_spec s f d
  rw [he]
  rfl
@[simp] theorem State.report_unitAddress (s : State) (f : Flag) (d : Byte) :
    (s.report f d).unitAddress = s.unitAddress := by
  obtain ⟨ns, fl, lf, he, _⟩ := State.report_spec s f d
  rw [he]
  rfl
@[simp] theorem State.report_ports (s : State) (f : Flag) (d : Byte) :
    (s.report f d).ports = s.ports := by
  obtain ⟨ns, fl, lf, he, _⟩ := State.report_spec s f d
  rw [he]
  rfl
@[simp] theorem State.report_bank (s : State) (f : Flag) (d : Byte) :
    (s.report f d).bank = s.bank := by
  obtain ⟨ns, fl, lf, he, _⟩ := State.report_spec s f d
  rw [he]
  rfl
@[simp] theorem State.report_mem (s : State) (f : Flag) (d : Byte) :
    (s.report f d).mem = s.mem := by
  obtain ⟨ns, fl, lf, he, _⟩ := State.report_spec s f d
  rw [he]
  rfl
@[simp] theorem State.report_pickQueue (s : State) (f : Flag) (d : Byte) :
    (s.report f d).pickQueue = s.pickQueue := by
  obtain ⟨ns, fl, lf, he, _⟩ := State.report_spec s f d
  rw [he]
  rfl
@[simp] theorem State.report_assoc (s : State) (f : Flag) (d : Byte) :
    (s.report f d).assoc = s.assoc := by
  obtain ⟨ns, fl, lf, he, _⟩ := State.report_spec s f d
  rw [he]
  rfl
@[simp] theorem State.report_channel (s : State) (f : Flag) (d : Byte) :
    (s.report f d).channel = s.channel := by
  obtain ⟨ns, fl, lf, he, _⟩ := State.report_spec s f d
  rw [he]
  rfl
@[simp] theorem State.report_capture (s : State) (f : Flag) (d : Byte) :
    (s.report f d).capture = s.capture := by
  obtain ⟨ns, fl, lf, he, _⟩ := State.report_spec s f d
  rw [he]
  rfl
@[simp] theorem State.report_readout (s : State) (f : Flag) (d : Byte) :
    (s.report f d).readout = s.readout := by
  obtain ⟨ns, fl, lf, he, _⟩ := State.report_spec s f d
  rw [he]
  rfl
@[simp] theorem State.report_pending (s : State) (f : Flag) (d : Byte) :
    (s.report f d).pending = s.pending := by
  obtain ⟨ns, fl, lf, he, _⟩ := State.report_spec s f d
  rw [he]
  rfl
@[simp] theorem State.report_trunk_rx (s : State) (f : Flag) (d : Byte) :
    (s.report f d).trunk.rx = s.trunk.rx := by
  obtain ⟨ns, fl, lf, he, _⟩ := State.report_spec s f d
  rw [he]
  rfl
@[simp] theorem State.report_trunk_control (s : State) (f : Flag) (d : Byte) :
    (s.report f d).trunk.control = s.trunk.control := by
  obtain ⟨ns, fl, lf, he, _⟩ := State.report_spec s f d
  rw [he]
  rfl
@[simp] theorem State.report_trunk_pass (s : State) (f : Flag) (d : Byte) :
    (s.report f d).trunk.pass = s.trunk.pass := by
  obtain ⟨ns, fl, lf, he, _⟩ := State.report_spec s f d
  rw [he]
  rfl
@[simp] theorem State.report_trunk_reply (s : State) (f : Flag) (d : Byte) :
    (s.report f d).trunk.reply = s.trunk.reply := by
  obtain ⟨ns, fl, lf, he, _⟩ := State.report_spec s f d
  rw [he]
  rfl
@[simp] theorem State.report_trunk_staged (s : State) (f : Flag) (d : Byte) :
    (s.report f d).trunk.staged = s.trunk.staged := by
  obtain ⟨ns, fl, lf, he, _⟩ := State.report_spec s f d
  rw [he]
  rfl
@[simp] theorem State.report_trunk_tx (s : State) (f : Flag) (d : Byte) :
    (s.report f d).trunk.tx = s.trunk.tx := by
  obtain ⟨ns, fl, lf, he, _⟩ := State.report_spec s f d
  rw [he]
  rfl
@[simp] theorem State.report_ctrl_settings (s : State) (f : Flag) (d : Byte) :
    (s.report f d).ctrl.settings = s.ctrl.settings := by
  obtain ⟨ns, fl, lf, he, _⟩ := State.report_spec s f d
  rw [he]
  rfl
@[simp] theorem State.report_ctrl_active (s : State) (f : Flag) (d : Byte) :
    (s.report f d).ctrl.active = s.ctrl.active := by
  obtain ⟨ns, fl, lf, he, _⟩ := State.report_spec s f d
  rw [he]
  rfl
@[simp] theorem State.report_ctrl_shadow (s : State) (f : Flag) (d : Byte) :
    (s.report f d).ctrl.shadow = s.ctrl.shadow := by
  obtain ⟨ns, fl, lf, he, _⟩ := State.report_spec s f d
  rw [he]
  rfl
@[simp] theorem State.report_ctrl_scheduled (s : State) (f : Flag) (d : Byte) :
    (s.report f d).ctrl.scheduled = s.ctrl.scheduled := by
  obtain ⟨ns, fl, lf, he, _⟩ := State.report_spec s f d
  rw [he]
  rfl
@[simp] theorem State.report_ctrl_marks (s : State) (f : Flag) (d : Byte) :
    (s.report f d).ctrl.marks = s.ctrl.marks := by
  obtain ⟨ns, fl, lf, he, _⟩ := State.report_spec s f d
  rw [he]
  rfl
@[simp] theorem State.report_ctrl_generation (s : State) (f : Flag) (d : Byte) :
    (s.report f d).ctrl.generation = s.ctrl.generation := by
  obtain ⟨ns, fl, lf, he, _⟩ := State.report_spec s f d
  rw [he]
  rfl
@[simp] theorem State.report_ctrl_reports (s : State) (f : Flag) (d : Byte) :
    (s.report f d).ctrl.reports = s.ctrl.reports := by
  obtain ⟨ns, fl, lf, he, _⟩ := State.report_spec s f d
  rw [he]
  rfl
@[simp] theorem State.lostFaultsArrive_pins (s : State) :
    s.lostFaultsArrive.pins = s.pins := by
  obtain ⟨ns, fl, he, _⟩ := State.lostFaultsArrive_spec s
  rw [he]
  rfl
@[simp] theorem State.lostFaultsArrive_unitAddress (s : State) :
    s.lostFaultsArrive.unitAddress = s.unitAddress := by
  obtain ⟨ns, fl, he, _⟩ := State.lostFaultsArrive_spec s
  rw [he]
  rfl
@[simp] theorem State.lostFaultsArrive_ports (s : State) :
    s.lostFaultsArrive.ports = s.ports := by
  obtain ⟨ns, fl, he, _⟩ := State.lostFaultsArrive_spec s
  rw [he]
  rfl
@[simp] theorem State.lostFaultsArrive_bank (s : State) :
    s.lostFaultsArrive.bank = s.bank := by
  obtain ⟨ns, fl, he, _⟩ := State.lostFaultsArrive_spec s
  rw [he]
  rfl
@[simp] theorem State.lostFaultsArrive_mem (s : State) :
    s.lostFaultsArrive.mem = s.mem := by
  obtain ⟨ns, fl, he, _⟩ := State.lostFaultsArrive_spec s
  rw [he]
  rfl
@[simp] theorem State.lostFaultsArrive_pickQueue (s : State) :
    s.lostFaultsArrive.pickQueue = s.pickQueue := by
  obtain ⟨ns, fl, he, _⟩ := State.lostFaultsArrive_spec s
  rw [he]
  rfl
@[simp] theorem State.lostFaultsArrive_assoc (s : State) :
    s.lostFaultsArrive.assoc = s.assoc := by
  obtain ⟨ns, fl, he, _⟩ := State.lostFaultsArrive_spec s
  rw [he]
  rfl
@[simp] theorem State.lostFaultsArrive_channel (s : State) :
    s.lostFaultsArrive.channel = s.channel := by
  obtain ⟨ns, fl, he, _⟩ := State.lostFaultsArrive_spec s
  rw [he]
  rfl
@[simp] theorem State.lostFaultsArrive_capture (s : State) :
    s.lostFaultsArrive.capture = s.capture := by
  obtain ⟨ns, fl, he, _⟩ := State.lostFaultsArrive_spec s
  rw [he]
  rfl
@[simp] theorem State.lostFaultsArrive_readout (s : State) :
    s.lostFaultsArrive.readout = s.readout := by
  obtain ⟨ns, fl, he, _⟩ := State.lostFaultsArrive_spec s
  rw [he]
  rfl
@[simp] theorem State.lostFaultsArrive_pending (s : State) :
    s.lostFaultsArrive.pending = s.pending := by
  obtain ⟨ns, fl, he, _⟩ := State.lostFaultsArrive_spec s
  rw [he]
  rfl
@[simp] theorem State.lostFaultsArrive_trunk_rx (s : State) :
    s.lostFaultsArrive.trunk.rx = s.trunk.rx := by
  obtain ⟨ns, fl, he, _⟩ := State.lostFaultsArrive_spec s
  rw [he]
  rfl
@[simp] theorem State.lostFaultsArrive_trunk_control (s : State) :
    s.lostFaultsArrive.trunk.control = s.trunk.control := by
  obtain ⟨ns, fl, he, _⟩ := State.lostFaultsArrive_spec s
  rw [he]
  rfl
@[simp] theorem State.lostFaultsArrive_trunk_pass (s : State) :
    s.lostFaultsArrive.trunk.pass = s.trunk.pass := by
  obtain ⟨ns, fl, he, _⟩ := State.lostFaultsArrive_spec s
  rw [he]
  rfl
@[simp] theorem State.lostFaultsArrive_trunk_reply (s : State) :
    s.lostFaultsArrive.trunk.reply = s.trunk.reply := by
  obtain ⟨ns, fl, he, _⟩ := State.lostFaultsArrive_spec s
  rw [he]
  rfl
@[simp] theorem State.lostFaultsArrive_trunk_staged (s : State) :
    s.lostFaultsArrive.trunk.staged = s.trunk.staged := by
  obtain ⟨ns, fl, he, _⟩ := State.lostFaultsArrive_spec s
  rw [he]
  rfl
@[simp] theorem State.lostFaultsArrive_trunk_tx (s : State) :
    s.lostFaultsArrive.trunk.tx = s.trunk.tx := by
  obtain ⟨ns, fl, he, _⟩ := State.lostFaultsArrive_spec s
  rw [he]
  rfl
@[simp] theorem State.lostFaultsArrive_ctrl_settings (s : State) :
    s.lostFaultsArrive.ctrl.settings = s.ctrl.settings := by
  obtain ⟨ns, fl, he, _⟩ := State.lostFaultsArrive_spec s
  rw [he]
  rfl
@[simp] theorem State.lostFaultsArrive_ctrl_active (s : State) :
    s.lostFaultsArrive.ctrl.active = s.ctrl.active := by
  obtain ⟨ns, fl, he, _⟩ := State.lostFaultsArrive_spec s
  rw [he]
  rfl
@[simp] theorem State.lostFaultsArrive_ctrl_shadow (s : State) :
    s.lostFaultsArrive.ctrl.shadow = s.ctrl.shadow := by
  obtain ⟨ns, fl, he, _⟩ := State.lostFaultsArrive_spec s
  rw [he]
  rfl
@[simp] theorem State.lostFaultsArrive_ctrl_scheduled (s : State) :
    s.lostFaultsArrive.ctrl.scheduled = s.ctrl.scheduled := by
  obtain ⟨ns, fl, he, _⟩ := State.lostFaultsArrive_spec s
  rw [he]
  rfl
@[simp] theorem State.lostFaultsArrive_ctrl_marks (s : State) :
    s.lostFaultsArrive.ctrl.marks = s.ctrl.marks := by
  obtain ⟨ns, fl, he, _⟩ := State.lostFaultsArrive_spec s
  rw [he]
  rfl
@[simp] theorem State.lostFaultsArrive_ctrl_generation (s : State) :
    s.lostFaultsArrive.ctrl.generation = s.ctrl.generation := by
  obtain ⟨ns, fl, he, _⟩ := State.lostFaultsArrive_spec s
  rw [he]
  rfl
@[simp] theorem State.lostFaultsArrive_ctrl_reports (s : State) :
    s.lostFaultsArrive.ctrl.reports = s.ctrl.reports := by
  obtain ⟨ns, fl, he, _⟩ := State.lostFaultsArrive_spec s
  rw [he]
  rfl
@[simp] theorem State.request_pins (s : State) (n : Notice) :
    (s.request n).pins = s.pins := by
  obtain ⟨ns, fl, lf, he, _⟩ := State.request_spec s n
  rw [he]
  rfl
@[simp] theorem State.request_unitAddress (s : State) (n : Notice) :
    (s.request n).unitAddress = s.unitAddress := by
  obtain ⟨ns, fl, lf, he, _⟩ := State.request_spec s n
  rw [he]
  rfl
@[simp] theorem State.request_ports (s : State) (n : Notice) :
    (s.request n).ports = s.ports := by
  obtain ⟨ns, fl, lf, he, _⟩ := State.request_spec s n
  rw [he]
  rfl
@[simp] theorem State.request_bank (s : State) (n : Notice) :
    (s.request n).bank = s.bank := by
  obtain ⟨ns, fl, lf, he, _⟩ := State.request_spec s n
  rw [he]
  rfl
@[simp] theorem State.request_mem (s : State) (n : Notice) :
    (s.request n).mem = s.mem := by
  obtain ⟨ns, fl, lf, he, _⟩ := State.request_spec s n
  rw [he]
  rfl
@[simp] theorem State.request_pickQueue (s : State) (n : Notice) :
    (s.request n).pickQueue = s.pickQueue := by
  obtain ⟨ns, fl, lf, he, _⟩ := State.request_spec s n
  rw [he]
  rfl
@[simp] theorem State.request_assoc (s : State) (n : Notice) :
    (s.request n).assoc = s.assoc := by
  obtain ⟨ns, fl, lf, he, _⟩ := State.request_spec s n
  rw [he]
  rfl
@[simp] theorem State.request_channel (s : State) (n : Notice) :
    (s.request n).channel = s.channel := by
  obtain ⟨ns, fl, lf, he, _⟩ := State.request_spec s n
  rw [he]
  rfl
@[simp] theorem State.request_capture (s : State) (n : Notice) :
    (s.request n).capture = s.capture := by
  obtain ⟨ns, fl, lf, he, _⟩ := State.request_spec s n
  rw [he]
  rfl
@[simp] theorem State.request_readout (s : State) (n : Notice) :
    (s.request n).readout = s.readout := by
  obtain ⟨ns, fl, lf, he, _⟩ := State.request_spec s n
  rw [he]
  rfl
@[simp] theorem State.request_pending (s : State) (n : Notice) :
    (s.request n).pending = s.pending := by
  obtain ⟨ns, fl, lf, he, _⟩ := State.request_spec s n
  rw [he]
  rfl
@[simp] theorem State.request_trunk_rx (s : State) (n : Notice) :
    (s.request n).trunk.rx = s.trunk.rx := by
  obtain ⟨ns, fl, lf, he, _⟩ := State.request_spec s n
  rw [he]
  rfl
@[simp] theorem State.request_trunk_control (s : State) (n : Notice) :
    (s.request n).trunk.control = s.trunk.control := by
  obtain ⟨ns, fl, lf, he, _⟩ := State.request_spec s n
  rw [he]
  rfl
@[simp] theorem State.request_trunk_pass (s : State) (n : Notice) :
    (s.request n).trunk.pass = s.trunk.pass := by
  obtain ⟨ns, fl, lf, he, _⟩ := State.request_spec s n
  rw [he]
  rfl
@[simp] theorem State.request_trunk_reply (s : State) (n : Notice) :
    (s.request n).trunk.reply = s.trunk.reply := by
  obtain ⟨ns, fl, lf, he, _⟩ := State.request_spec s n
  rw [he]
  rfl
@[simp] theorem State.request_trunk_staged (s : State) (n : Notice) :
    (s.request n).trunk.staged = s.trunk.staged := by
  obtain ⟨ns, fl, lf, he, _⟩ := State.request_spec s n
  rw [he]
  rfl
@[simp] theorem State.request_trunk_tx (s : State) (n : Notice) :
    (s.request n).trunk.tx = s.trunk.tx := by
  obtain ⟨ns, fl, lf, he, _⟩ := State.request_spec s n
  rw [he]
  rfl
@[simp] theorem State.request_ctrl_settings (s : State) (n : Notice) :
    (s.request n).ctrl.settings = s.ctrl.settings := by
  obtain ⟨ns, fl, lf, he, _⟩ := State.request_spec s n
  rw [he]
  rfl
@[simp] theorem State.request_ctrl_active (s : State) (n : Notice) :
    (s.request n).ctrl.active = s.ctrl.active := by
  obtain ⟨ns, fl, lf, he, _⟩ := State.request_spec s n
  rw [he]
  rfl
@[simp] theorem State.request_ctrl_shadow (s : State) (n : Notice) :
    (s.request n).ctrl.shadow = s.ctrl.shadow := by
  obtain ⟨ns, fl, lf, he, _⟩ := State.request_spec s n
  rw [he]
  rfl
@[simp] theorem State.request_ctrl_scheduled (s : State) (n : Notice) :
    (s.request n).ctrl.scheduled = s.ctrl.scheduled := by
  obtain ⟨ns, fl, lf, he, _⟩ := State.request_spec s n
  rw [he]
  rfl
@[simp] theorem State.request_ctrl_marks (s : State) (n : Notice) :
    (s.request n).ctrl.marks = s.ctrl.marks := by
  obtain ⟨ns, fl, lf, he, _⟩ := State.request_spec s n
  rw [he]
  rfl
@[simp] theorem State.request_ctrl_generation (s : State) (n : Notice) :
    (s.request n).ctrl.generation = s.ctrl.generation := by
  obtain ⟨ns, fl, lf, he, _⟩ := State.request_spec s n
  rw [he]
  rfl
@[simp] theorem State.request_ctrl_reports (s : State) (n : Notice) :
    (s.request n).ctrl.reports = s.ctrl.reports := by
  obtain ⟨ns, fl, lf, he, _⟩ := State.request_spec s n
  rw [he]
  rfl
@[simp] theorem State.requestAll_pins (s : State) (ns : List Notice) :
    (s.requestAll ns).pins = s.pins := by
  obtain ⟨q, fl, lf, he, _⟩ := State.requestAll_spec ns s
  rw [he]
  rfl
@[simp] theorem State.requestAll_unitAddress (s : State) (ns : List Notice) :
    (s.requestAll ns).unitAddress = s.unitAddress := by
  obtain ⟨q, fl, lf, he, _⟩ := State.requestAll_spec ns s
  rw [he]
  rfl
@[simp] theorem State.requestAll_ports (s : State) (ns : List Notice) :
    (s.requestAll ns).ports = s.ports := by
  obtain ⟨q, fl, lf, he, _⟩ := State.requestAll_spec ns s
  rw [he]
  rfl
@[simp] theorem State.requestAll_bank (s : State) (ns : List Notice) :
    (s.requestAll ns).bank = s.bank := by
  obtain ⟨q, fl, lf, he, _⟩ := State.requestAll_spec ns s
  rw [he]
  rfl
@[simp] theorem State.requestAll_mem (s : State) (ns : List Notice) :
    (s.requestAll ns).mem = s.mem := by
  obtain ⟨q, fl, lf, he, _⟩ := State.requestAll_spec ns s
  rw [he]
  rfl
@[simp] theorem State.requestAll_pickQueue (s : State) (ns : List Notice) :
    (s.requestAll ns).pickQueue = s.pickQueue := by
  obtain ⟨q, fl, lf, he, _⟩ := State.requestAll_spec ns s
  rw [he]
  rfl
@[simp] theorem State.requestAll_assoc (s : State) (ns : List Notice) :
    (s.requestAll ns).assoc = s.assoc := by
  obtain ⟨q, fl, lf, he, _⟩ := State.requestAll_spec ns s
  rw [he]
  rfl
@[simp] theorem State.requestAll_channel (s : State) (ns : List Notice) :
    (s.requestAll ns).channel = s.channel := by
  obtain ⟨q, fl, lf, he, _⟩ := State.requestAll_spec ns s
  rw [he]
  rfl
@[simp] theorem State.requestAll_capture (s : State) (ns : List Notice) :
    (s.requestAll ns).capture = s.capture := by
  obtain ⟨q, fl, lf, he, _⟩ := State.requestAll_spec ns s
  rw [he]
  rfl
@[simp] theorem State.requestAll_readout (s : State) (ns : List Notice) :
    (s.requestAll ns).readout = s.readout := by
  obtain ⟨q, fl, lf, he, _⟩ := State.requestAll_spec ns s
  rw [he]
  rfl
@[simp] theorem State.requestAll_pending (s : State) (ns : List Notice) :
    (s.requestAll ns).pending = s.pending := by
  obtain ⟨q, fl, lf, he, _⟩ := State.requestAll_spec ns s
  rw [he]
  rfl
@[simp] theorem State.requestAll_trunk_rx (s : State) (ns : List Notice) :
    (s.requestAll ns).trunk.rx = s.trunk.rx := by
  obtain ⟨q, fl, lf, he, _⟩ := State.requestAll_spec ns s
  rw [he]
  rfl
@[simp] theorem State.requestAll_trunk_control (s : State) (ns : List Notice) :
    (s.requestAll ns).trunk.control = s.trunk.control := by
  obtain ⟨q, fl, lf, he, _⟩ := State.requestAll_spec ns s
  rw [he]
  rfl
@[simp] theorem State.requestAll_trunk_pass (s : State) (ns : List Notice) :
    (s.requestAll ns).trunk.pass = s.trunk.pass := by
  obtain ⟨q, fl, lf, he, _⟩ := State.requestAll_spec ns s
  rw [he]
  rfl
@[simp] theorem State.requestAll_trunk_reply (s : State) (ns : List Notice) :
    (s.requestAll ns).trunk.reply = s.trunk.reply := by
  obtain ⟨q, fl, lf, he, _⟩ := State.requestAll_spec ns s
  rw [he]
  rfl
@[simp] theorem State.requestAll_trunk_staged (s : State) (ns : List Notice) :
    (s.requestAll ns).trunk.staged = s.trunk.staged := by
  obtain ⟨q, fl, lf, he, _⟩ := State.requestAll_spec ns s
  rw [he]
  rfl
@[simp] theorem State.requestAll_trunk_tx (s : State) (ns : List Notice) :
    (s.requestAll ns).trunk.tx = s.trunk.tx := by
  obtain ⟨q, fl, lf, he, _⟩ := State.requestAll_spec ns s
  rw [he]
  rfl
@[simp] theorem State.requestAll_ctrl_settings (s : State) (ns : List Notice) :
    (s.requestAll ns).ctrl.settings = s.ctrl.settings := by
  obtain ⟨q, fl, lf, he, _⟩ := State.requestAll_spec ns s
  rw [he]
  rfl
@[simp] theorem State.requestAll_ctrl_active (s : State) (ns : List Notice) :
    (s.requestAll ns).ctrl.active = s.ctrl.active := by
  obtain ⟨q, fl, lf, he, _⟩ := State.requestAll_spec ns s
  rw [he]
  rfl
@[simp] theorem State.requestAll_ctrl_shadow (s : State) (ns : List Notice) :
    (s.requestAll ns).ctrl.shadow = s.ctrl.shadow := by
  obtain ⟨q, fl, lf, he, _⟩ := State.requestAll_spec ns s
  rw [he]
  rfl
@[simp] theorem State.requestAll_ctrl_scheduled (s : State) (ns : List Notice) :
    (s.requestAll ns).ctrl.scheduled = s.ctrl.scheduled := by
  obtain ⟨q, fl, lf, he, _⟩ := State.requestAll_spec ns s
  rw [he]
  rfl
@[simp] theorem State.requestAll_ctrl_marks (s : State) (ns : List Notice) :
    (s.requestAll ns).ctrl.marks = s.ctrl.marks := by
  obtain ⟨q, fl, lf, he, _⟩ := State.requestAll_spec ns s
  rw [he]
  rfl
@[simp] theorem State.requestAll_ctrl_generation (s : State) (ns : List Notice) :
    (s.requestAll ns).ctrl.generation = s.ctrl.generation := by
  obtain ⟨q, fl, lf, he, _⟩ := State.requestAll_spec ns s
  rw [he]
  rfl
@[simp] theorem State.requestAll_ctrl_reports (s : State) (ns : List Notice) :
    (s.requestAll ns).ctrl.reports = s.ctrl.reports := by
  obtain ⟨q, fl, lf, he, _⟩ := State.requestAll_spec ns s
  rw [he]
  rfl
@[simp] theorem State.idle_pins (s : State) :
    s.idle.pins = s.pins := by
  obtain ⟨ns, fl, lf, he, _⟩ := State.idle_spec s
  rw [he]
  rfl
@[simp] theorem State.idle_unitAddress (s : State) :
    s.idle.unitAddress = s.unitAddress := by
  obtain ⟨ns, fl, lf, he, _⟩ := State.idle_spec s
  rw [he]
  rfl
@[simp] theorem State.idle_ports (s : State) :
    s.idle.ports = s.ports := by
  obtain ⟨ns, fl, lf, he, _⟩ := State.idle_spec s
  rw [he]
  rfl
@[simp] theorem State.idle_bank (s : State) :
    s.idle.bank = s.bank := by
  obtain ⟨ns, fl, lf, he, _⟩ := State.idle_spec s
  rw [he]
  rfl
@[simp] theorem State.idle_mem (s : State) :
    s.idle.mem = s.mem := by
  obtain ⟨ns, fl, lf, he, _⟩ := State.idle_spec s
  rw [he]
  rfl
@[simp] theorem State.idle_pickQueue (s : State) :
    s.idle.pickQueue = s.pickQueue := by
  obtain ⟨ns, fl, lf, he, _⟩ := State.idle_spec s
  rw [he]
  rfl
@[simp] theorem State.idle_assoc (s : State) :
    s.idle.assoc = s.assoc := by
  obtain ⟨ns, fl, lf, he, _⟩ := State.idle_spec s
  rw [he]
  rfl
@[simp] theorem State.idle_channel (s : State) :
    s.idle.channel = s.channel := by
  obtain ⟨ns, fl, lf, he, _⟩ := State.idle_spec s
  rw [he]
  rfl
@[simp] theorem State.idle_capture (s : State) :
    s.idle.capture = s.capture := by
  obtain ⟨ns, fl, lf, he, _⟩ := State.idle_spec s
  rw [he]
  rfl
@[simp] theorem State.idle_readout (s : State) :
    s.idle.readout = s.readout := by
  obtain ⟨ns, fl, lf, he, _⟩ := State.idle_spec s
  rw [he]
  rfl
@[simp] theorem State.idle_pending (s : State) :
    s.idle.pending = s.pending := by
  obtain ⟨ns, fl, lf, he, _⟩ := State.idle_spec s
  rw [he]
  rfl
@[simp] theorem State.idle_trunk_rx (s : State) :
    s.idle.trunk.rx = s.trunk.rx := by
  obtain ⟨ns, fl, lf, he, _⟩ := State.idle_spec s
  rw [he]
  rfl
@[simp] theorem State.idle_trunk_control (s : State) :
    s.idle.trunk.control = s.trunk.control := by
  obtain ⟨ns, fl, lf, he, _⟩ := State.idle_spec s
  rw [he]
  rfl
@[simp] theorem State.idle_trunk_pass (s : State) :
    s.idle.trunk.pass = s.trunk.pass := by
  obtain ⟨ns, fl, lf, he, _⟩ := State.idle_spec s
  rw [he]
  rfl
@[simp] theorem State.idle_trunk_reply (s : State) :
    s.idle.trunk.reply = s.trunk.reply := by
  obtain ⟨ns, fl, lf, he, _⟩ := State.idle_spec s
  rw [he]
  rfl
@[simp] theorem State.idle_trunk_staged (s : State) :
    s.idle.trunk.staged = s.trunk.staged := by
  obtain ⟨ns, fl, lf, he, _⟩ := State.idle_spec s
  rw [he]
  rfl
@[simp] theorem State.idle_trunk_tx (s : State) :
    s.idle.trunk.tx = s.trunk.tx := by
  obtain ⟨ns, fl, lf, he, _⟩ := State.idle_spec s
  rw [he]
  rfl
@[simp] theorem State.idle_ctrl_settings (s : State) :
    s.idle.ctrl.settings = s.ctrl.settings := by
  obtain ⟨ns, fl, lf, he, _⟩ := State.idle_spec s
  rw [he]
  rfl
@[simp] theorem State.idle_ctrl_active (s : State) :
    s.idle.ctrl.active = s.ctrl.active := by
  obtain ⟨ns, fl, lf, he, _⟩ := State.idle_spec s
  rw [he]
  rfl
@[simp] theorem State.idle_ctrl_shadow (s : State) :
    s.idle.ctrl.shadow = s.ctrl.shadow := by
  obtain ⟨ns, fl, lf, he, _⟩ := State.idle_spec s
  rw [he]
  rfl
@[simp] theorem State.idle_ctrl_scheduled (s : State) :
    s.idle.ctrl.scheduled = s.ctrl.scheduled := by
  obtain ⟨ns, fl, lf, he, _⟩ := State.idle_spec s
  rw [he]
  rfl
@[simp] theorem State.idle_ctrl_marks (s : State) :
    s.idle.ctrl.marks = s.ctrl.marks := by
  obtain ⟨ns, fl, lf, he, _⟩ := State.idle_spec s
  rw [he]
  rfl
@[simp] theorem State.idle_ctrl_generation (s : State) :
    s.idle.ctrl.generation = s.ctrl.generation := by
  obtain ⟨ns, fl, lf, he, _⟩ := State.idle_spec s
  rw [he]
  rfl
@[simp] theorem State.idle_ctrl_reports (s : State) :
    s.idle.ctrl.reports = s.ctrl.reports := by
  obtain ⟨ns, fl, lf, he, _⟩ := State.idle_spec s
  rw [he]
  rfl

theorem State.report_flag (s : State) (f : Flag) (d : Byte) : (s.report f d).ctrl.flags.get f = true := by
  obtain ⟨ns, fl, lf, he, _, _, hf, _⟩ := State.report_spec s f d
  rw [he]
  exact hf

/-- R145: a report of a flag that is already set changes nothing. -/
theorem State.report_set (s : State) {f : Flag} (d : Byte) (h : s.ctrl.flags.get f = true) : s.report f d = s := by
  simp [State.report, h]

theorem State.report_notice_length (s : State) (f : Flag) (d : Byte) :
    (s.report f d).trunk.notice.length ≤ max s.trunk.notice.length 16 := by
  obtain ⟨ns, fl, lf, he, hg, _⟩ := State.report_spec s f d
  rw [he]
  exact hg.2

theorem State.request_notice_length (s : State) (n : Notice) :
    (s.request n).trunk.notice.length ≤ max s.trunk.notice.length 16 := by
  obtain ⟨ns, fl, lf, he, hg, _⟩ := State.request_spec s n
  rw [he]
  exact hg.2

theorem State.requestAll_notice_length (s : State) (ns : List Notice) :
    (s.requestAll ns).trunk.notice.length ≤ max s.trunk.notice.length 16 := by
  obtain ⟨q, fl, lf, he, hg, _⟩ := State.requestAll_spec ns s
  rw [he]
  exact hg.2

theorem State.idle_notice_length (s : State) : s.idle.trunk.notice.length ≤ max s.trunk.notice.length 16 := by
  obtain ⟨ns, fl, lf, he, hg, _⟩ := State.idle_spec s
  rw [he]
  exact hg.2

end Sys2Proof.Machine
end

