-- ==== Sys2Proof/Laws/Views.lean ====
section
/-! SUPPORT. What the named updates leave of the views of the state: a line's port, a station, its
availability, a line at the detector bank, a record, a candidate, a bank. -/

namespace Sys2Proof.Machine

theorem State.port_of_ports {s t : State} (h : t.ports = s.ports) (w : Line) : t.port w = s.port w := by
  simp only [State.port, h]

theorem State.station_of_bank {s t : State} (h : t.bank = s.bank) (w : Station) : t.station w = s.station w := by
  simp only [State.station, h]

theorem State.available_of_bank {s t : State} (h : t.bank = s.bank) (w : Station) : t.available w = s.available w := by
  simp only [State.available, State.station, h]

theorem State.bankLine_of_bank {s t : State} (h : t.bank = s.bank) (w : Line) : t.bankLine w = s.bankLine w := by
  simp only [State.bankLine, h]

theorem State.record_of_capture {s t : State} (h : t.capture = s.capture) (w : Fin 32) : t.record w = s.record w := by
  simp only [State.record, h]

theorem State.candidate_of_assoc {s t : State} (h : t.assoc = s.assoc) (w : Fin 16) : t.candidate w = s.candidate w := by
  simp only [State.candidate, h]

theorem State.bankOf_of_ctrl {s t : State} (h : t.ctrl.active = s.ctrl.active) (h' : t.ctrl.shadow = s.ctrl.shadow)
    (w : BankName) : t.bankOf w = s.bankOf w := by
  cases w <;> simp only [State.bankOf, h, h']

@[simp] theorem State.setPort_station (s : State) (l : Line) (p : LinePort) (w : Station) :
    (s.setPort l p).station w = s.station w := State.station_of_bank (by simp) w
@[simp] theorem State.setPort_available (s : State) (l : Line) (p : LinePort) (w : Station) :
    (s.setPort l p).available w = s.available w := State.available_of_bank (by simp) w
@[simp] theorem State.setPort_bankLine (s : State) (l : Line) (p : LinePort) (w : Line) :
    (s.setPort l p).bankLine w = s.bankLine w := State.bankLine_of_bank (by simp) w
@[simp] theorem State.setPort_record (s : State) (l : Line) (p : LinePort) (w : Fin 32) :
    (s.setPort l p).record w = s.record w := State.record_of_capture (by simp) w
@[simp] theorem State.setPort_candidate (s : State) (l : Line) (p : LinePort) (w : Fin 16) :
    (s.setPort l p).candidate w = s.candidate w := State.candidate_of_assoc (by simp) w
@[simp] theorem State.setPort_bankOf (s : State) (l : Line) (p : LinePort) (w : BankName) :
    (s.setPort l p).bankOf w = s.bankOf w := by cases w <;> rfl
@[simp] theorem State.setBankLine_port (s : State) (l : Line) (b : BankLine) (w : Line) :
    (s.setBankLine l b).port w = s.port w := State.port_of_ports (by simp) w
@[simp] theorem State.setBankLine_record (s : State) (l : Line) (b : BankLine) (w : Fin 32) :
    (s.setBankLine l b).record w = s.record w := State.record_of_capture (by simp) w
@[simp] theorem State.setBankLine_candidate (s : State) (l : Line) (b : BankLine) (w : Fin 16) :
    (s.setBankLine l b).candidate w = s.candidate w := State.candidate_of_assoc (by simp) w
@[simp] theorem State.setBankLine_bankOf (s : State) (l : Line) (b : BankLine) (w : BankName) :
    (s.setBankLine l b).bankOf w = s.bankOf w := by cases w <;> rfl
@[simp] theorem State.mapStations_port (s : State) (f : Station → StationState → StationState) (w : Line) :
    (s.mapStations f).port w = s.port w := State.port_of_ports (by simp) w
@[simp] theorem State.mapStations_record (s : State) (f : Station → StationState → StationState) (w : Fin 32) :
    (s.mapStations f).record w = s.record w := State.record_of_capture (by simp) w
@[simp] theorem State.mapStations_candidate (s : State) (f : Station → StationState → StationState) (w : Fin 16) :
    (s.mapStations f).candidate w = s.candidate w := State.candidate_of_assoc (by simp) w
@[simp] theorem State.mapStations_bankOf (s : State) (f : Station → StationState → StationState) (w : BankName) :
    (s.mapStations f).bankOf w = s.bankOf w := by cases w <;> rfl
@[simp] theorem State.setFlag_port (s : State) (f : Flag) (w : Line) :
    (s.setFlag f).port w = s.port w := State.port_of_ports (by simp) w
@[simp] theorem State.setFlag_station (s : State) (f : Flag) (w : Station) :
    (s.setFlag f).station w = s.station w := State.station_of_bank (by simp) w
@[simp] theorem State.setFlag_available (s : State) (f : Flag) (w : Station) :
    (s.setFlag f).available w = s.available w := State.available_of_bank (by simp) w
@[simp] theorem State.setFlag_bankLine (s : State) (f : Flag) (w : Line) :
    (s.setFlag f).bankLine w = s.bankLine w := State.bankLine_of_bank (by simp) w
@[simp] theorem State.setFlag_record (s : State) (f : Flag) (w : Fin 32) :
    (s.setFlag f).record w = s.record w := State.record_of_capture (by simp) w
@[simp] theorem State.setFlag_candidate (s : State) (f : Flag) (w : Fin 16) :
    (s.setFlag f).candidate w = s.candidate w := State.candidate_of_assoc (by simp) w
@[simp] theorem State.setFlag_bankOf (s : State) (f : Flag) (w : BankName) :
    (s.setFlag f).bankOf w = s.bankOf w := by cases w <;> rfl
@[simp] theorem State.sendReport_port (s : State) (b : SwitchBlock) (w : Line) :
    (s.sendReport b).port w = s.port w := State.port_of_ports (by simp) w
@[simp] theorem State.sendReport_station (s : State) (b : SwitchBlock) (w : Station) :
    (s.sendReport b).station w = s.station w := State.station_of_bank (by simp) w
@[simp] theorem State.sendReport_available (s : State) (b : SwitchBlock) (w : Station) :
    (s.sendReport b).available w = s.available w := State.available_of_bank (by simp) w
@[simp] theorem State.sendReport_bankLine (s : State) (b : SwitchBlock) (w : Line) :
    (s.sendReport b).bankLine w = s.bankLine w := State.bankLine_of_bank (by simp) w
@[simp] theorem State.sendReport_record (s : State) (b : SwitchBlock) (w : Fin 32) :
    (s.sendReport b).record w = s.record w := State.record_of_capture (by simp) w
@[simp] theorem State.sendReport_candidate (s : State) (b : SwitchBlock) (w : Fin 16) :
    (s.sendReport b).candidate w = s.candidate w := State.candidate_of_assoc (by simp) w
@[simp] theorem State.sendReport_bankOf (s : State) (b : SwitchBlock) (w : BankName) :
    (s.sendReport b).bankOf w = s.bankOf w := by cases w <;> rfl
@[simp] theorem State.setRecord_port (s : State) (p : Fin 32) (r : Option Record) (w : Line) :
    (s.setRecord p r).port w = s.port w := State.port_of_ports (by simp) w
@[simp] theorem State.setRecord_station (s : State) (p : Fin 32) (r : Option Record) (w : Station) :
    (s.setRecord p r).station w = s.station w := State.station_of_bank (by simp) w
@[simp] theorem State.setRecord_available (s : State) (p : Fin 32) (r : Option Record) (w : Station) :
    (s.setRecord p r).available w = s.available w := State.available_of_bank (by simp) w
@[simp] theorem State.setRecord_bankLine (s : State) (p : Fin 32) (r : Option Record) (w : Line) :
    (s.setRecord p r).bankLine w = s.bankLine w := State.bankLine_of_bank (by simp) w
@[simp] theorem State.setRecord_candidate (s : State) (p : Fin 32) (r : Option Record) (w : Fin 16) :
    (s.setRecord p r).candidate w = s.candidate w := State.candidate_of_assoc (by simp) w
@[simp] theorem State.setRecord_bankOf (s : State) (p : Fin 32) (r : Option Record) (w : BankName) :
    (s.setRecord p r).bankOf w = s.bankOf w := by cases w <;> rfl
@[simp] theorem State.returnBlocks_port (s : State) (bs : List Nat) (w : Line) :
    (s.returnBlocks bs).port w = s.port w := State.port_of_ports (by simp) w
@[simp] theorem State.returnBlocks_station (s : State) (bs : List Nat) (w : Station) :
    (s.returnBlocks bs).station w = s.station w := State.station_of_bank (by simp) w
@[simp] theorem State.returnBlocks_available (s : State) (bs : List Nat) (w : Station) :
    (s.returnBlocks bs).available w = s.available w := State.available_of_bank (by simp) w
@[simp] theorem State.returnBlocks_bankLine (s : State) (bs : List Nat) (w : Line) :
    (s.returnBlocks bs).bankLine w = s.bankLine w := State.bankLine_of_bank (by simp) w
@[simp] theorem State.returnBlocks_candidate (s : State) (bs : List Nat) (w : Fin 16) :
    (s.returnBlocks bs).candidate w = s.candidate w := State.candidate_of_assoc (by simp) w
@[simp] theorem State.returnBlocks_bankOf (s : State) (bs : List Nat) (w : BankName) :
    (s.returnBlocks bs).bankOf w = s.bankOf w := by cases w <;> rfl
@[simp] theorem State.dropCommand_port (s : State) (w : Line) :
    (s.dropCommand).port w = s.port w := State.port_of_ports (by simp) w
@[simp] theorem State.dropCommand_station (s : State) (w : Station) :
    (s.dropCommand).station w = s.station w := State.station_of_bank (by simp) w
@[simp] theorem State.dropCommand_available (s : State) (w : Station) :
    (s.dropCommand).available w = s.available w := State.available_of_bank (by simp) w
@[simp] theorem State.dropCommand_bankLine (s : State) (w : Line) :
    (s.dropCommand).bankLine w = s.bankLine w := State.bankLine_of_bank (by simp) w
@[simp] theorem State.dropCommand_record (s : State) (w : Fin 32) :
    (s.dropCommand).record w = s.record w := State.record_of_capture (by simp) w
@[simp] theorem State.dropCommand_candidate (s : State) (w : Fin 16) :
    (s.dropCommand).candidate w = s.candidate w := State.candidate_of_assoc (by simp) w
@[simp] theorem State.dropCommand_bankOf (s : State) (w : BankName) :
    (s.dropCommand).bankOf w = s.bankOf w := by cases w <;> rfl
@[simp] theorem State.setReadout_port (s : State) (r : Readout) (w : Line) :
    (s.setReadout r).port w = s.port w := State.port_of_ports (by simp) w
@[simp] theorem State.setReadout_station (s : State) (r : Readout) (w : Station) :
    (s.setReadout r).station w = s.station w := State.station_of_bank (by simp) w
@[simp] theorem State.setReadout_available (s : State) (r : Readout) (w : Station) :
    (s.setReadout r).available w = s.available w := State.available_of_bank (by simp) w
@[simp] theorem State.setReadout_bankLine (s : State) (r : Readout) (w : Line) :
    (s.setReadout r).bankLine w = s.bankLine w := State.bankLine_of_bank (by simp) w
@[simp] theorem State.setReadout_record (s : State) (r : Readout) (w : Fin 32) :
    (s.setReadout r).record w = s.record w := State.record_of_capture (by simp) w
@[simp] theorem State.setReadout_candidate (s : State) (r : Readout) (w : Fin 16) :
    (s.setReadout r).candidate w = s.candidate w := State.candidate_of_assoc (by simp) w
@[simp] theorem State.setReadout_bankOf (s : State) (r : Readout) (w : BankName) :
    (s.setReadout r).bankOf w = s.bankOf w := by cases w <;> rfl
@[simp] theorem State.setStaged_port (s : State) (d : Option DataFrame) (w : Line) :
    (s.setStaged d).port w = s.port w := State.port_of_ports (by simp) w
@[simp] theorem State.setStaged_station (s : State) (d : Option DataFrame) (w : Station) :
    (s.setStaged d).station w = s.station w := State.station_of_bank (by simp) w
@[simp] theorem State.setStaged_available (s : State) (d : Option DataFrame) (w : Station) :
    (s.setStaged d).available w = s.available w := State.available_of_bank (by simp) w
@[simp] theorem State.setStaged_bankLine (s : State) (d : Option DataFrame) (w : Line) :
    (s.setStaged d).bankLine w = s.bankLine w := State.bankLine_of_bank (by simp) w
@[simp] theorem State.setStaged_record (s : State) (d : Option DataFrame) (w : Fin 32) :
    (s.setStaged d).record w = s.record w := State.record_of_capture (by simp) w
@[simp] theorem State.setStaged_candidate (s : State) (d : Option DataFrame) (w : Fin 16) :
    (s.setStaged d).candidate w = s.candidate w := State.candidate_of_assoc (by simp) w
@[simp] theorem State.setStaged_bankOf (s : State) (d : Option DataFrame) (w : BankName) :
    (s.setStaged d).bankOf w = s.bankOf w := by cases w <;> rfl
@[simp] theorem State.dropMessage_port (s : State) (w : Line) :
    (s.dropMessage).port w = s.port w := State.port_of_ports (by simp) w
@[simp] theorem State.dropMessage_station (s : State) (w : Station) :
    (s.dropMessage).station w = s.station w := State.station_of_bank (by simp) w
@[simp] theorem State.dropMessage_available (s : State) (w : Station) :
    (s.dropMessage).available w = s.available w := State.available_of_bank (by simp) w
@[simp] theorem State.dropMessage_bankLine (s : State) (w : Line) :
    (s.dropMessage).bankLine w = s.bankLine w := State.bankLine_of_bank (by simp) w
@[simp] theorem State.dropMessage_record (s : State) (w : Fin 32) :
    (s.dropMessage).record w = s.record w := State.record_of_capture (by simp) w
@[simp] theorem State.dropMessage_candidate (s : State) (w : Fin 16) :
    (s.dropMessage).candidate w = s.candidate w := State.candidate_of_assoc (by simp) w
@[simp] theorem State.dropMessage_bankOf (s : State) (w : BankName) :
    (s.dropMessage).bankOf w = s.bankOf w := by cases w <;> rfl
@[simp] theorem State.dropEntry_port (s : State) (w : Line) :
    (s.dropEntry).port w = s.port w := State.port_of_ports (by simp) w
@[simp] theorem State.dropEntry_station (s : State) (w : Station) :
    (s.dropEntry).station w = s.station w := State.station_of_bank (by simp) w
@[simp] theorem State.dropEntry_available (s : State) (w : Station) :
    (s.dropEntry).available w = s.available w := State.available_of_bank (by simp) w
@[simp] theorem State.dropEntry_bankLine (s : State) (w : Line) :
    (s.dropEntry).bankLine w = s.bankLine w := State.bankLine_of_bank (by simp) w
@[simp] theorem State.dropEntry_record (s : State) (w : Fin 32) :
    (s.dropEntry).record w = s.record w := State.record_of_capture (by simp) w
@[simp] theorem State.dropEntry_candidate (s : State) (w : Fin 16) :
    (s.dropEntry).candidate w = s.candidate w := State.candidate_of_assoc (by simp) w
@[simp] theorem State.dropEntry_bankOf (s : State) (w : BankName) :
    (s.dropEntry).bankOf w = s.bankOf w := by cases w <;> rfl
@[simp] theorem State.setCandidate_port (s : State) (k : Fin 16) (c : Option Candidate) (w : Line) :
    (s.setCandidate k c).port w = s.port w := State.port_of_ports (by simp) w
@[simp] theorem State.setCandidate_station (s : State) (k : Fin 16) (c : Option Candidate) (w : Station) :
    (s.setCandidate k c).station w = s.station w := State.station_of_bank (by simp) w
@[simp] theorem State.setCandidate_available (s : State) (k : Fin 16) (c : Option Candidate) (w : Station) :
    (s.setCandidate k c).available w = s.available w := State.available_of_bank (by simp) w
@[simp] theorem State.setCandidate_bankLine (s : State) (k : Fin 16) (c : Option Candidate) (w : Line) :
    (s.setCandidate k c).bankLine w = s.bankLine w := State.bankLine_of_bank (by simp) w
@[simp] theorem State.setCandidate_record (s : State) (k : Fin 16) (c : Option Candidate) (w : Fin 32) :
    (s.setCandidate k c).record w = s.record w := State.record_of_capture (by simp) w
@[simp] theorem State.setCandidate_bankOf (s : State) (k : Fin 16) (c : Option Candidate) (w : BankName) :
    (s.setCandidate k c).bankOf w = s.bankOf w := by cases w <;> rfl
@[simp] theorem State.send_port (s : State) (m : Message) (w : Line) :
    (s.send m).port w = s.port w := State.port_of_ports (by simp) w
@[simp] theorem State.send_station (s : State) (m : Message) (w : Station) :
    (s.send m).station w = s.station w := State.station_of_bank (by simp) w
@[simp] theorem State.send_available (s : State) (m : Message) (w : Station) :
    (s.send m).available w = s.available w := State.available_of_bank (by simp) w
@[simp] theorem State.send_bankLine (s : State) (m : Message) (w : Line) :
    (s.send m).bankLine w = s.bankLine w := State.bankLine_of_bank (by simp) w
@[simp] theorem State.send_record (s : State) (m : Message) (w : Fin 32) :
    (s.send m).record w = s.record w := State.record_of_capture (by simp) w
@[simp] theorem State.send_candidate (s : State) (m : Message) (w : Fin 16) :
    (s.send m).candidate w = s.candidate w := State.candidate_of_assoc (by simp) w
@[simp] theorem State.send_bankOf (s : State) (m : Message) (w : BankName) :
    (s.send m).bankOf w = s.bankOf w := by cases w <;> rfl
@[simp] theorem State.transmit_port (s : State) (kind : Byte) (payload : List Byte) (w : Line) :
    (s.transmit kind payload).port w = s.port w := State.port_of_ports (by simp) w
@[simp] theorem State.transmit_station (s : State) (kind : Byte) (payload : List Byte) (w : Station) :
    (s.transmit kind payload).station w = s.station w := State.station_of_bank (by simp) w
@[simp] theorem State.transmit_available (s : State) (kind : Byte) (payload : List Byte) (w : Station) :
    (s.transmit kind payload).available w = s.available w := State.available_of_bank (by simp) w
@[simp] theorem State.transmit_bankLine (s : State) (kind : Byte) (payload : List Byte) (w : Line) :
    (s.transmit kind payload).bankLine w = s.bankLine w := State.bankLine_of_bank (by simp) w
@[simp] theorem State.transmit_record (s : State) (kind : Byte) (payload : List Byte) (w : Fin 32) :
    (s.transmit kind payload).record w = s.record w := State.record_of_capture (by simp) w
@[simp] theorem State.transmit_candidate (s : State) (kind : Byte) (payload : List Byte) (w : Fin 16) :
    (s.transmit kind payload).candidate w = s.candidate w := State.candidate_of_assoc (by simp) w
@[simp] theorem State.transmit_bankOf (s : State) (kind : Byte) (payload : List Byte) (w : BankName) :
    (s.transmit kind payload).bankOf w = s.bankOf w := by cases w <;> rfl
@[simp] theorem State.clearFlags_port (s : State) (w : Line) :
    (s.clearFlags).port w = s.port w := State.port_of_ports (by simp) w
@[simp] theorem State.clearFlags_station (s : State) (w : Station) :
    (s.clearFlags).station w = s.station w := State.station_of_bank (by simp) w
@[simp] theorem State.clearFlags_available (s : State) (w : Station) :
    (s.clearFlags).available w = s.available w := State.available_of_bank (by simp) w
@[simp] theorem State.clearFlags_bankLine (s : State) (w : Line) :
    (s.clearFlags).bankLine w = s.bankLine w := State.bankLine_of_bank (by simp) w
@[simp] theorem State.clearFlags_record (s : State) (w : Fin 32) :
    (s.clearFlags).record w = s.record w := State.record_of_capture (by simp) w
@[simp] theorem State.clearFlags_candidate (s : State) (w : Fin 16) :
    (s.clearFlags).candidate w = s.candidate w := State.candidate_of_assoc (by simp) w
@[simp] theorem State.clearFlags_bankOf (s : State) (w : BankName) :
    (s.clearFlags).bankOf w = s.bankOf w := by cases w <;> rfl
@[simp] theorem State.setSettings_port (s : State) (x : Settings) (w : Line) :
    (s.setSettings x).port w = s.port w := State.port_of_ports (by simp) w
@[simp] theorem State.setSettings_station (s : State) (x : Settings) (w : Station) :
    (s.setSettings x).station w = s.station w := State.station_of_bank (by simp) w
@[simp] theorem State.setSettings_available (s : State) (x : Settings) (w : Station) :
    (s.setSettings x).available w = s.available w := State.available_of_bank (by simp) w
@[simp] theorem State.setSettings_bankLine (s : State) (x : Settings) (w : Line) :
    (s.setSettings x).bankLine w = s.bankLine w := State.bankLine_of_bank (by simp) w
@[simp] theorem State.setSettings_record (s : State) (x : Settings) (w : Fin 32) :
    (s.setSettings x).record w = s.record w := State.record_of_capture (by simp) w
@[simp] theorem State.setSettings_candidate (s : State) (x : Settings) (w : Fin 16) :
    (s.setSettings x).candidate w = s.candidate w := State.candidate_of_assoc (by simp) w
@[simp] theorem State.setSettings_bankOf (s : State) (x : Settings) (w : BankName) :
    (s.setSettings x).bankOf w = s.bankOf w := by cases w <;> rfl
@[simp] theorem State.setShadow_port (s : State) (b : Bank) (w : Line) :
    (s.setShadow b).port w = s.port w := State.port_of_ports (by simp) w
@[simp] theorem State.setShadow_station (s : State) (b : Bank) (w : Station) :
    (s.setShadow b).station w = s.station w := State.station_of_bank (by simp) w
@[simp] theorem State.setShadow_available (s : State) (b : Bank) (w : Station) :
    (s.setShadow b).available w = s.available w := State.available_of_bank (by simp) w
@[simp] theorem State.setShadow_bankLine (s : State) (b : Bank) (w : Line) :
    (s.setShadow b).bankLine w = s.bankLine w := State.bankLine_of_bank (by simp) w
@[simp] theorem State.setShadow_record (s : State) (b : Bank) (w : Fin 32) :
    (s.setShadow b).record w = s.record w := State.record_of_capture (by simp) w
@[simp] theorem State.setShadow_candidate (s : State) (b : Bank) (w : Fin 16) :
    (s.setShadow b).candidate w = s.candidate w := State.candidate_of_assoc (by simp) w
@[simp] theorem State.postMark_port (s : State) (m : LineMark) (w : Line) :
    (s.postMark m).port w = s.port w := State.port_of_ports (by simp) w
@[simp] theorem State.postMark_station (s : State) (m : LineMark) (w : Station) :
    (s.postMark m).station w = s.station w := State.station_of_bank (by simp) w
@[simp] theorem State.postMark_available (s : State) (m : LineMark) (w : Station) :
    (s.postMark m).available w = s.available w := State.available_of_bank (by simp) w
@[simp] theorem State.postMark_bankLine (s : State) (m : LineMark) (w : Line) :
    (s.postMark m).bankLine w = s.bankLine w := State.bankLine_of_bank (by simp) w
@[simp] theorem State.postMark_record (s : State) (m : LineMark) (w : Fin 32) :
    (s.postMark m).record w = s.record w := State.record_of_capture (by simp) w
@[simp] theorem State.postMark_candidate (s : State) (m : LineMark) (w : Fin 16) :
    (s.postMark m).candidate w = s.candidate w := State.candidate_of_assoc (by simp) w
@[simp] theorem State.postMark_bankOf (s : State) (m : LineMark) (w : BankName) :
    (s.postMark m).bankOf w = s.bankOf w := by cases w <;> rfl
@[simp] theorem State.takeShadow_port (s : State) (l : Line) (w : Line) :
    (s.takeShadow l).port w = s.port w := State.port_of_ports (by simp) w
@[simp] theorem State.takeShadow_record (s : State) (l : Line) (w : Fin 32) :
    (s.takeShadow l).record w = s.record w := State.record_of_capture (by simp) w
@[simp] theorem State.takeShadow_candidate (s : State) (l : Line) (w : Fin 16) :
    (s.takeShadow l).candidate w = s.candidate w := State.candidate_of_assoc (by simp) w
@[simp] theorem State.takeShadow_bankOf (s : State) (l : Line) (w : BankName) :
    (s.takeShadow l).bankOf w = s.bankOf w := by cases w <;> rfl
@[simp] theorem State.withdraw_port (s : State) (w : Line) :
    (s.withdraw).port w = s.port w := State.port_of_ports (by simp) w
@[simp] theorem State.withdraw_record (s : State) (w : Fin 32) :
    (s.withdraw).record w = s.record w := State.record_of_capture (by simp) w
@[simp] theorem State.withdraw_bankOf (s : State) (w : BankName) :
    (s.withdraw).bankOf w = s.bankOf w := by cases w <;> rfl
@[simp] theorem State.removeUnread_port (s : State) (first last : Nat) (w : Line) :
    (s.removeUnread first last).port w = s.port w := State.port_of_ports (by simp) w
@[simp] theorem State.removeUnread_record (s : State) (first last : Nat) (w : Fin 32) :
    (s.removeUnread first last).record w = s.record w := State.record_of_capture (by simp) w
@[simp] theorem State.removeUnread_candidate (s : State) (first last : Nat) (w : Fin 16) :
    (s.removeUnread first last).candidate w = s.candidate w := State.candidate_of_assoc (by simp) w
@[simp] theorem State.removeUnread_bankOf (s : State) (first last : Nat) (w : BankName) :
    (s.removeUnread first last).bankOf w = s.bankOf w := by cases w <;> rfl
@[simp] theorem State.restartRange_port (s : State) (first last : Nat) (w : Line) :
    (s.restartRange first last).port w = s.port w := State.port_of_ports (by simp) w
@[simp] theorem State.restartRange_record (s : State) (first last : Nat) (w : Fin 32) :
    (s.restartRange first last).record w = s.record w := State.record_of_capture (by simp) w
@[simp] theorem State.restartRange_candidate (s : State) (first last : Nat) (w : Fin 16) :
    (s.restartRange first last).candidate w = s.candidate w := State.candidate_of_assoc (by simp) w
@[simp] theorem State.restartRange_bankOf (s : State) (first last : Nat) (w : BankName) :
    (s.restartRange first last).bankOf w = s.bankOf w := by cases w <;> rfl
@[simp] theorem State.dropPending_port (s : State) (w : Line) :
    (s.dropPending).port w = s.port w := State.port_of_ports (by simp) w
@[simp] theorem State.dropPending_station (s : State) (w : Station) :
    (s.dropPending).station w = s.station w := State.station_of_bank (by simp) w
@[simp] theorem State.dropPending_available (s : State) (w : Station) :
    (s.dropPending).available w = s.available w := State.available_of_bank (by simp) w
@[simp] theorem State.dropPending_bankLine (s : State) (w : Line) :
    (s.dropPending).bankLine w = s.bankLine w := State.bankLine_of_bank (by simp) w
@[simp] theorem State.dropPending_record (s : State) (w : Fin 32) :
    (s.dropPending).record w = s.record w := State.record_of_capture (by simp) w
@[simp] theorem State.dropPending_candidate (s : State) (w : Fin 16) :
    (s.dropPending).candidate w = s.candidate w := State.candidate_of_assoc (by simp) w
@[simp] theorem State.dropPending_bankOf (s : State) (w : BankName) :
    (s.dropPending).bankOf w = s.bankOf w := by cases w <;> rfl
@[simp] theorem State.withNotices_port (s : State) (ns : List NoticeFrame) (fl : Flags) (lf : List Byte) (w : Line) :
    (s.withNotices ns fl lf).port w = s.port w := State.port_of_ports (by simp) w
@[simp] theorem State.withNotices_station (s : State) (ns : List NoticeFrame) (fl : Flags) (lf : List Byte) (w : Station) :
    (s.withNotices ns fl lf).station w = s.station w := State.station_of_bank (by simp) w
@[simp] theorem State.withNotices_available (s : State) (ns : List NoticeFrame) (fl : Flags) (lf : List Byte) (w : Station) :
    (s.withNotices ns fl lf).available w = s.available w := State.available_of_bank (by simp) w
@[simp] theorem State.withNotices_bankLine (s : State) (ns : List NoticeFrame) (fl : Flags) (lf : List Byte) (w : Line) :
    (s.withNotices ns fl lf).bankLine w = s.bankLine w := State.bankLine_of_bank (by simp) w
@[simp] theorem State.withNotices_record (s : State) (ns : List NoticeFrame) (fl : Flags) (lf : List Byte) (w : Fin 32) :
    (s.withNotices ns fl lf).record w = s.record w := State.record_of_capture (by simp) w
@[simp] theorem State.withNotices_candidate (s : State) (ns : List NoticeFrame) (fl : Flags) (lf : List Byte) (w : Fin 16) :
    (s.withNotices ns fl lf).candidate w = s.candidate w := State.candidate_of_assoc (by simp) w
@[simp] theorem State.withNotices_bankOf (s : State) (ns : List NoticeFrame) (fl : Flags) (lf : List Byte) (w : BankName) :
    (s.withNotices ns fl lf).bankOf w = s.bankOf w := by cases w <;> rfl
@[simp] theorem State.offerNotice_port (s : State) (n : Notice) (w : Line) :
    (s.offerNotice n).port w = s.port w := State.port_of_ports (by simp) w
@[simp] theorem State.offerNotice_station (s : State) (n : Notice) (w : Station) :
    (s.offerNotice n).station w = s.station w := State.station_of_bank (by simp) w
@[simp] theorem State.offerNotice_available (s : State) (n : Notice) (w : Station) :
    (s.offerNotice n).available w = s.available w := State.available_of_bank (by simp) w
@[simp] theorem State.offerNotice_bankLine (s : State) (n : Notice) (w : Line) :
    (s.offerNotice n).bankLine w = s.bankLine w := State.bankLine_of_bank (by simp) w
@[simp] theorem State.offerNotice_record (s : State) (n : Notice) (w : Fin 32) :
    (s.offerNotice n).record w = s.record w := State.record_of_capture (by simp) w
@[simp] theorem State.offerNotice_candidate (s : State) (n : Notice) (w : Fin 16) :
    (s.offerNotice n).candidate w = s.candidate w := State.candidate_of_assoc (by simp) w
@[simp] theorem State.offerNotice_bankOf (s : State) (n : Notice) (w : BankName) :
    (s.offerNotice n).bankOf w = s.bankOf w := by cases w <;> simp [State.bankOf]
@[simp] theorem State.report_port (s : State) (f : Flag) (d : Byte) (w : Line) :
    (s.report f d).port w = s.port w := State.port_of_ports (by simp) w
@[simp] theorem State.report_station (s : State) (f : Flag) (d : Byte) (w : Station) :
    (s.report f d).station w = s.station w := State.station_of_bank (by simp) w
@[simp] theorem State.report_available (s : State) (f : Flag) (d : Byte) (w : Station) :
    (s.report f d).available w = s.available w := State.available_of_bank (by simp) w
@[simp] theorem State.report_bankLine (s : State) (f : Flag) (d : Byte) (w : Line) :
    (s.report f d).bankLine w = s.bankLine w := State.bankLine_of_bank (by simp) w
@[simp] theorem State.report_record (s : State) (f : Flag) (d : Byte) (w : Fin 32) :
    (s.report f d).record w = s.record w := State.record_of_capture (by simp) w
@[simp] theorem State.report_candidate (s : State) (f : Flag) (d : Byte) (w : Fin 16) :
    (s.report f d).candidate w = s.candidate w := State.candidate_of_assoc (by simp) w
@[simp] theorem State.report_bankOf (s : State) (f : Flag) (d : Byte) (w : BankName) :
    (s.report f d).bankOf w = s.bankOf w := by cases w <;> simp [State.bankOf]
@[simp] theorem State.lostFaultsArrive_port (s : State) (w : Line) :
    s.lostFaultsArrive.port w = s.port w := State.port_of_ports (by simp) w
@[simp] theorem State.lostFaultsArrive_station (s : State) (w : Station) :
    s.lostFaultsArrive.station w = s.station w := State.station_of_bank (by simp) w
@[simp] theorem State.lostFaultsArrive_available (s : State) (w : Station) :
    s.lostFaultsArrive.available w = s.available w := State.available_of_bank (by simp) w
@[simp] theorem State.lostFaultsArrive_bankLine (s : State) (w : Line) :
    s.lostFaultsArrive.bankLine w = s.bankLine w := State.bankLine_of_bank (by simp) w
@[simp] theorem State.lostFaultsArrive_record (s : State) (w : Fin 32) :
    s.lostFaultsArrive.record w = s.record w := State.record_of_capture (by simp) w
@[simp] theorem State.lostFaultsArrive_candidate (s : State) (w : Fin 16) :
    s.lostFaultsArrive.candidate w = s.candidate w := State.candidate_of_assoc (by simp) w
@[simp] theorem State.lostFaultsArrive_bankOf (s : State) (w : BankName) :
    s.lostFaultsArrive.bankOf w = s.bankOf w := by cases w <;> simp [State.bankOf]
@[simp] theorem State.request_port (s : State) (n : Notice) (w : Line) :
    (s.request n).port w = s.port w := State.port_of_ports (by simp) w
@[simp] theorem State.request_station (s : State) (n : Notice) (w : Station) :
    (s.request n).station w = s.station w := State.station_of_bank (by simp) w
@[simp] theorem State.request_available (s : State) (n : Notice) (w : Station) :
    (s.request n).available w = s.available w := State.available_of_bank (by simp) w
@[simp] theorem State.request_bankLine (s : State) (n : Notice) (w : Line) :
    (s.request n).bankLine w = s.bankLine w := State.bankLine_of_bank (by simp) w
@[simp] theorem State.request_record (s : State) (n : Notice) (w : Fin 32) :
    (s.request n).record w = s.record w := State.record_of_capture (by simp) w
@[simp] theorem State.request_candidate (s : State) (n : Notice) (w : Fin 16) :
    (s.request n).candidate w = s.candidate w := State.candidate_of_assoc (by simp) w
@[simp] theorem State.request_bankOf (s : State) (n : Notice) (w : BankName) :
    (s.request n).bankOf w = s.bankOf w := by cases w <;> simp [State.bankOf]
@[simp] theorem State.requestAll_port (s : State) (ns : List Notice) (w : Line) :
    (s.requestAll ns).port w = s.port w := State.port_of_ports (by simp) w
@[simp] theorem State.requestAll_station (s : State) (ns : List Notice) (w : Station) :
    (s.requestAll ns).station w = s.station w := State.station_of_bank (by simp) w
@[simp] theorem State.requestAll_available (s : State) (ns : List Notice) (w : Station) :
    (s.requestAll ns).available w = s.available w := State.available_of_bank (by simp) w
@[simp] theorem State.requestAll_bankLine (s : State) (ns : List Notice) (w : Line) :
    (s.requestAll ns).bankLine w = s.bankLine w := State.bankLine_of_bank (by simp) w
@[simp] theorem State.requestAll_record (s : State) (ns : List Notice) (w : Fin 32) :
    (s.requestAll ns).record w = s.record w := State.record_of_capture (by simp) w
@[simp] theorem State.requestAll_candidate (s : State) (ns : List Notice) (w : Fin 16) :
    (s.requestAll ns).candidate w = s.candidate w := State.candidate_of_assoc (by simp) w
@[simp] theorem State.requestAll_bankOf (s : State) (ns : List Notice) (w : BankName) :
    (s.requestAll ns).bankOf w = s.bankOf w := by cases w <;> simp [State.bankOf]
@[simp] theorem State.idle_port (s : State) (w : Line) :
    s.idle.port w = s.port w := State.port_of_ports (by simp) w
@[simp] theorem State.idle_station (s : State) (w : Station) :
    s.idle.station w = s.station w := State.station_of_bank (by simp) w
@[simp] theorem State.idle_available (s : State) (w : Station) :
    s.idle.available w = s.available w := State.available_of_bank (by simp) w
@[simp] theorem State.idle_bankLine (s : State) (w : Line) :
    s.idle.bankLine w = s.bankLine w := State.bankLine_of_bank (by simp) w
@[simp] theorem State.idle_record (s : State) (w : Fin 32) :
    s.idle.record w = s.record w := State.record_of_capture (by simp) w
@[simp] theorem State.idle_candidate (s : State) (w : Fin 16) :
    s.idle.candidate w = s.candidate w := State.candidate_of_assoc (by simp) w
@[simp] theorem State.idle_bankOf (s : State) (w : BankName) :
    s.idle.bankOf w = s.bankOf w := by cases w <;> simp [State.bankOf]

end Sys2Proof.Machine
end

