-- ==== Sys2Proof/Laws/Capture.lean ====
section
/-! SUPPORT. Capture entries and records: what an event at a station entry, the freeing of a record and
the completion of an entry can do, said once. -/

namespace Sys2Proof.Machine

/-! ## Places -/

@[simp] theorem mem_allPlaces (p : Fin 32) : p ∈ allPlaces := by
  rw [allPlaces, List.mem_ofFn]
  exact ⟨_, rfl⟩

@[simp] theorem mem_allStations (i : Station) : i ∈ allStations := by
  rw [allStations, List.mem_ofFn]
  exact ⟨_, rfl⟩

@[simp] theorem mem_allSlots (k : Fin 16) : k ∈ allSlots := by
  rw [allSlots, List.mem_ofFn]
  exact ⟨_, rfl⟩

theorem allPlaces_nodup : allPlaces.Nodup := by
  rw [allPlaces, List.nodup_ofFn]
  exact fun _ _ h => h

theorem allSlots_nodup : allSlots.Nodup := by
  rw [allSlots, List.nodup_ofFn]
  exact fun _ _ h => h

theorem allStations_nodup : allStations.Nodup := by
  rw [allStations, List.nodup_ofFn]
  exact fun _ _ h => h

@[simp] theorem mem_stationsOf (l : Line) (i : Station) : i ∈ stationsOf l ↔ lineOf i = l := by
  simp [stationsOf]

/-! ## Chains (R118) -/

@[simp] theorem keptChain_length (keep : Nat → Bool) : ∀ (p : Nat) (ch : List (Option Nat)),
    (keptChain keep p ch).length = ch.length
  | _, [] => rfl
  | p, b :: rest => by simp [keptChain, keptChain_length keep (p + 1) rest]

/-- R118: a position that stays keeps its block, and one that does not is empty. -/
theorem keptChain_get (keep : Nat → Bool) : ∀ (p : Nat) (ch : List (Option Nat)) (n : Nat),
    (keptChain keep p ch)[n]? = (ch[n]?).map fun b => if keep (p + n) then b else none
  | _, [], _ => by simp [keptChain]
  | p, b :: rest, 0 => by simp [keptChain]
  | p, b :: rest, n + 1 => by
    simp only [keptChain, List.getElem?_cons_succ, keptChain_get keep (p + 1) rest n]
    congr 2
    funext x
    have : p + 1 + n = p + (n + 1) := by omega
    rw [this]

/-- The kept chain, position by position. -/
theorem keptChain_eq_map (keep : Nat → Bool) : ∀ (p : Nat) (ch : List (Option Nat)),
    keptChain keep p ch = (ch.zipIdx p).map fun x => if keep x.2 then x.1 else none
  | _, [] => rfl
  | p, b :: rest => by
    rw [keptChain, keptChain_eq_map keep (p + 1) rest]
    rfl

/-- The blocks returned, position by position. -/
theorem returnedBlocks_eq_filter (keep : Nat → Bool) : ∀ (p : Nat) (ch : List (Option Nat)),
    returnedBlocks keep p ch = chainBlocks (((ch.zipIdx p).filter fun x => !keep x.2).map Prod.fst)
  | _, [] => rfl
  | p, b :: rest => by
    rw [returnedBlocks, returnedBlocks_eq_filter keep (p + 1) rest, List.zipIdx_cons, List.filter_cons]
    cases keep p <;> cases b <;> rfl

/-- R118: the chain that a completed entry keeps is the model's. -/
theorem CaptureSection.keptEntry_eq (c : CaptureSection) (e : StationEntry) :
    c.keptEntry e = { e with chain := keptChain (c.keepsPosition e) 0 e.chain } := by
  rw [keptChain_eq_map]
  rfl

/-- R118: the blocks that a completed entry returns are the model's. -/
theorem CaptureSection.unusedBlocks_eq (c : CaptureSection) (e : StationEntry) :
    c.unusedBlocks e = returnedBlocks (c.keepsPosition e) 0 e.chain := by
  rw [returnedBlocks_eq_filter]
  rfl

@[simp] theorem CaptureSection.keptEntry_station (c : CaptureSection) (e : StationEntry) :
    (c.keptEntry e).station = e.station := rfl

@[simp] theorem CaptureSection.keptEntry_complete (c : CaptureSection) (e : StationEntry) :
    (c.keptEntry e).complete = e.complete := rfl

/-- Events that leave every entry as it is leave the record as it is. -/
theorem Record.afterEvents_id (r : Record) (c : CaptureSection) (h : r.capture = some c) : r.afterEvents c id = r := by
  have hc : ∀ e, completes id e = false := fun e => by simp [completes]
  simp only [Record.afterEvents, hc, Bool.false_eq_true, and_false, false_and, exists_false, if_false, id,
    List.map_id', ← h]

/-- R118: the blocks that stay and those returned are the blocks of the chain. -/
theorem returnedBlocks_perm (keep : Nat → Bool) : ∀ (p : Nat) (ch : List (Option Nat)),
    List.Perm (returnedBlocks keep p ch ++ chainBlocks (keptChain keep p ch)) (chainBlocks ch)
  | _, [] => by simp [returnedBlocks, keptChain, chainBlocks]
  | p, b :: rest => by
    have ih := returnedBlocks_perm keep (p + 1) rest
    cases b with
    | none =>
      simp only [returnedBlocks, keptChain, chainBlocks, Option.toList_none, ite_self, List.nil_append]
      simpa [chainBlocks] using ih
    | some n =>
      by_cases h : keep p
      · simp only [returnedBlocks, keptChain, h, ↓reduceIte, List.nil_append, chainBlocks]
        simp only [List.filterMap_cons, id_eq]
        exact List.perm_middle.trans (List.Perm.cons n ih)
      · simp only [returnedBlocks, keptChain, h, Bool.false_eq_true, ↓reduceIte, Option.toList_some, chainBlocks,
          List.filterMap_cons, id_eq, List.cons_append, List.nil_append]
        exact List.Perm.cons n ih

/-! ## An event at a station entry -/

/-- The blocks of a list of entries, entry by entry. -/
def entriesBlocks (es : List StationEntry) : List Nat := (es.map fun e => chainBlocks e.chain).flatten

@[simp] theorem entriesBlocks_cons (e : StationEntry) (es : List StationEntry) :
    entriesBlocks (e :: es) = chainBlocks e.chain ++ entriesBlocks es := rfl

@[simp] theorem entriesBlocks_nil : entriesBlocks [] = [] := rfl

/-- R110, R118: an event that leaves the chain alone loses no block. -/
theorem CaptureSection.changeEntry_blocks (c : CaptureSection) (st : Station) (f : StationEntry → StationEntry)
    (hf : ∀ e, (f e).chain = e.chain) : ∀ es : List StationEntry,
    List.Perm ((c.changeEntry st f es).returned ++ entriesBlocks (c.changeEntry st f es).entries)
      (entriesBlocks es)
  | [] => by simp [CaptureSection.changeEntry]
  | e :: rest => by
    by_cases hs : e.station = st
    · simp only [CaptureSection.changeEntry, hs, ↓reduceIte]
      split
      · simp only [entriesBlocks_cons]
        rw [← List.append_assoc]
        refine List.Perm.append ?_ (List.Perm.refl _)
        have := returnedBlocks_perm (c.keepsPosition (f e)) 0 (f e).chain
        rw [hf e] at this ⊢
        exact this
      · simp [hf e]
    · simp only [CaptureSection.changeEntry, hs, ↓reduceIte, entriesBlocks_cons]
      have ih := changeEntry_blocks c st f hf rest
      refine (List.Perm.trans ?_ (List.Perm.append_left (chainBlocks e.chain) ih))
      rw [← List.append_assoc, ← List.append_assoc]
      exact List.Perm.append List.perm_append_comm (List.Perm.refl _)

/-- An event that changes nothing at the station's entries changes no entry, returns no block and
completes nothing. -/
theorem CaptureSection.changeEntry_id (c : CaptureSection) (st : Station) (f : StationEntry → StationEntry) :
    ∀ es : List StationEntry, (∀ e ∈ es, e.station = st → f e = e) → c.changeEntry st f es = ⟨es, [], false⟩
  | [], _ => rfl
  | e :: rest, h => by
    by_cases hs : e.station = st
    · have hf := h e (List.mem_cons_self ..) hs
      simp only [CaptureSection.changeEntry, hs, ↓reduceIte, hf]
      simp
    · have ih := changeEntry_id c st f rest fun e' he' => h e' (List.mem_cons_of_mem _ he')
      simp only [CaptureSection.changeEntry, hs, ↓reduceIte, ih]

/-- An event that keeps each entry's station keeps the stations of the entries. -/
theorem CaptureSection.changeEntry_stations (c : CaptureSection) (st : Station) (f : StationEntry → StationEntry)
    (hf : ∀ e, (f e).station = e.station) : ∀ es : List StationEntry,
    (c.changeEntry st f es).entries.map StationEntry.station = es.map StationEntry.station
  | [] => rfl
  | e :: rest => by
    by_cases hs : e.station = st
    · simp only [CaptureSection.changeEntry, hs, ↓reduceIte]
      split
      · simp only [List.map_cons, hf e]
      · simp only [List.map_cons, hf e]
    · simp only [CaptureSection.changeEntry, hs, ↓reduceIte, List.map_cons,
        changeEntry_stations c st f hf rest]

/-- What an event at a station entry of a record can do: nothing, when there is no capture section; else
the entries change as `changeEntry` says, the returned blocks go to the free list, and a FILLING record
whose entries are then all complete may become READY. -/
theorem State.entryEvent_spec (s : State) (p : Fin 32) (st : Station) (f : StationEntry → StationEntry) :
    s.entryEvent p st f = s ∨
    ∃ r c r' ns fl lf, s.record p = some r ∧ r.capture = some c ∧
      s.entryEvent p st f =
        ((s.setRecord p (some r')).returnBlocks (c.changeEntry st f c.entries).returned).withNotices ns fl lf ∧
      noticesGrow s.trunk.notice ns ∧ flagsRise s.ctrl.flags fl ∧
      r'.capture = some { c with entries := (c.changeEntry st f c.entries).entries } ∧
      r' = { r with capture := r'.capture, state := r'.state } ∧
      (r'.state = r.state ∨ (r.state = .filling ∧ r'.state = .ready ∧ r'.allComplete = true)) := by
  unfold State.entryEvent
  split
  · exact .inl rfl
  · rename_i r hr
    split
    · exact .inl rfl
    · rename_i c hc
      right
      simp only
      split
      · rename_i h
        simp only [Bool.and_eq_true, decide_eq_true_eq] at h
        let r' : Record := { r with capture := some { c with entries := (c.changeEntry st f c.entries).entries } }
        obtain ⟨ns, fl, lf, he, hg, hfl, _⟩ := State.request_spec
          ((s.setRecord p (some { r' with state := .ready })).returnBlocks (c.changeEntry st f c.entries).returned)
          r'.readyNotice
        exact ⟨r, c, { r' with state := .ready }, ns, fl, lf, hr, hc, he, hg, hfl, rfl, rfl, .inr ⟨h.1.2, rfl, h.2⟩⟩
      · exact ⟨r, c, { r with capture := some { c with entries := (c.changeEntry st f c.entries).entries } },
          s.trunk.notice, s.ctrl.flags, s.ctrl.lostFaults, hr, hc, rfl, noticesGrow.refl _, flagsRise.refl _, rfl, rfl, .inl rfl⟩

/-! ## Freeing a record (R107) -/

/-- R107, R103: what every place holds after the record of a place has been freed. -/
theorem State.freeRecord_record (s : State) (p q : Fin 32) (r : Record) (h : s.record p = some r) :
    (s.freeRecord p).record q =
      if q = p then none
      else (s.record q).map fun x => if r.order < x.order then { x with order := x.order - 1 } else x := by
  simp only [State.freeRecord, h]
  simp only [State.record]
  exact tabulate_get _ _ _

theorem State.freeRecord_freeList (s : State) (p : Fin 32) (r : Record) (h : s.record p = some r) :
    (s.freeRecord p).capture.freeList = s.capture.freeList ++ r.blocks := by
  simp only [State.freeRecord, h, Record.blocks]

theorem State.freeRecord_none (s : State) (p : Fin 32) (h : s.record p = none) : s.freeRecord p = s := by
  simp only [State.freeRecord, h]

theorem State.freeRecord_map (s : State) (p : Fin 32) : (s.freeRecord p).capture.map = s.capture.map := by
  unfold State.freeRecord
  split <;> rfl

theorem State.freeRecord_nextNumber (s : State) (p : Fin 32) :
    (s.freeRecord p).capture.nextNumber = s.capture.nextNumber := by
  unfold State.freeRecord
  split <;> rfl

end Sys2Proof.Machine
end

