-- ==== Sys2Proof/Laws/Commands.lean ====
section
/-! SUPPORT. Taking and answering a recorder command (R148 to R150): what a row's meaning comes to once the
command at the head of the control receive buffer is known. -/

namespace Sys2Proof.Machine

theorem Command.isGroup_iff (c : Command) : c.isGroup = true ↔ c.address = 31 := by
  constructor
  · intro h
    exact BitVec.eq_of_toNat_eq (of_decide_eq_true h)
  · intro h
    exact decide_eq_true (congrArg BitVec.toNat h)

theorem Command.hasCode_iff (n : Nat) (c : Command) : c.hasCode n = true ↔ c.code.toNat = n := by
  simp only [Command.hasCode, decide_eq_true_eq]

/-- The reply of a command taken (R148, R150). -/
theorem State.dropCommand_answer (s : State) (c : Command) (k : Completion) (rs : List Byte) :
    s.dropCommand.answer c k rs = s.answered c k rs := by
  unfold State.answer State.answered State.dropCommand
  by_cases h : c.address = 31
  · rw [if_pos ((Command.isGroup_iff c).mpr h), if_pos h]
  · rw [if_neg (fun h' => h ((Command.isGroup_iff c).mp h')), if_neg h]

/-- The reply of a command taken, after an execution that touched neither the trunk nor the unit address. -/
theorem State.answer_of_trunk {s t : State} (hu : t.unitAddress = s.unitAddress)
    (ht : t.trunk = s.dropCommand.trunk) (c : Command) (k : Completion) (rs : List Byte) :
    t.answer c k rs = { t with trunk := (s.answered c k rs).trunk } := by
  have hs : t.answer c k rs = { t with trunk := (s.dropCommand.answer c k rs).trunk } := by
    unfold State.answer
    split
    · rw [← ht]
    · rw [ht, hu]
      rfl
  rw [hs, State.dropCommand_answer]

theorem State.commandFor_of_canTake {s : State} {c : Command} (h : s.canTake c) (mine : Command → Bool) :
    s.commandFor mine = if mine c then some c else none := by
  obtain ⟨h1, h2, h3⟩ := h
  simp only [State.commandFor, h1, h2, Config.replyPlaces, h3, decide_true, Bool.and_self, if_true]

/-- R148: the row that judges the oldest command executes it whole. -/
theorem State.takeCommand_mine {s : State} {c : Command} (h : s.canTake c) {mine : Command → Bool}
    (hm : mine c = true) (run : Command → State → State) :
    s.takeCommand mine run = .next (run c s.dropCommand) := by
  simp only [State.takeCommand, State.commandFor_of_canTake h, hm, if_true]

/-- A row that is not the oldest command's own does not happen (log 1). -/
theorem State.takeCommand_other {s : State} {c : Command} (h : s.canTake c) {mine : Command → Bool}
    (hm : mine c = false) (run : Command → State → State) : s.takeCommand mine run = .next s := by
  simp only [State.takeCommand, State.commandFor_of_canTake h, hm, Bool.false_eq_true, if_false]

/-- R148: while the REPLY queue is full no command is taken. -/
theorem State.takeCommand_full {s : State} (h : 4 ≤ s.trunk.reply.length) (mine : Command → Bool)
    (run : Command → State → State) : s.takeCommand mine run = .next s := by
  have : ¬ s.trunk.reply.length < 4 := Nat.not_lt.mpr h
  simp only [State.takeCommand, State.commandFor, Config.replyPlaces, this, decide_false, Bool.and_false,
    Bool.false_eq_true, if_false]

/-- What a row that takes a command can answer: the command executed on the state without it, or the state
as it was. -/
theorem State.takeCommand_cases {s t : State} {mine : Command → Bool} {run : Command → State → State}
    (h : s.takeCommand mine run = .next t) :
    t = s ∨ ∃ c, s.canTake c ∧ mine c = true ∧ t = run c s.dropCommand := by
  unfold State.takeCommand at h
  split at h
  · rename_i c hc
    cases h
    refine Or.inr ⟨c, ?_⟩
    unfold State.commandFor at hc
    split at hc
    · rename_i hr
      obtain ⟨h1, h3⟩ := (Bool.and_eq_true _ _).mp hr
      split at hc
      · rename_i x hx
        split at hc
        · rename_i hm
          cases hc
          exact ⟨⟨h1, hx, of_decide_eq_true h3⟩, hm, rfl⟩
        · cases hc
      · cases hc
    · cases hc
  · cases h
    exact Or.inl rfl

/-- A row that takes a command neither faults nor refuses. -/
theorem State.takeCommand_next (s : State) (mine : Command → Bool) (run : Command → State → State) :
    ∃ t, s.takeCommand mine run = .next t := by
  unfold State.takeCommand
  split
  · exact ⟨_, rfl⟩
  · exact ⟨_, rfl⟩

/-- R149, step 2, where the length is right. -/
theorem State.withLength_same {s : State} {c : Command} {n : Nat} (h : c.params.length = n) (t : State) :
    s.withLength c n t = t := by
  simp only [State.withLength, h, if_true]

/-- R149, step 2, where it is not. -/
theorem State.withLength_other {s : State} {c : Command} {n : Nat} (h : c.params.length ≠ n) (t : State) :
    s.withLength c n t = s.answer c .malformed [] := by
  simp only [State.withLength, h, if_false]

/-! ## Each row, once its command is at the head (Table 11.5) -/

theorem Command.hasCode_of_code {c : Command} {b : Byte} (h : c.code = b) : c.hasCode b.toNat = true :=
  decide_eq_true (congrArg BitVec.toNat h)

theorem execIdentify_taken {s : State} {c : Command} (h : s.canTake c) (hc : c.code = 0x01) :
    execIdentify s = .next (s.dropCommand.withLength c 0 (s.dropCommand.answer c .done s.identity)) :=
  State.takeCommand_mine h (Command.hasCode_of_code hc) _

theorem execReadStatus_taken {s : State} {c : Command} (h : s.canTake c) (hc : c.code = 0x02) :
    execReadStatus s = .next (s.dropCommand.withLength c 0 (s.dropCommand.clearFlags.answer c .done s.statusBytes)) :=
  State.takeCommand_mine h (Command.hasCode_of_code hc) _

theorem execReadStationStatus_taken {s : State} {c : Command} (h : s.canTake c) (hc : c.code = 0x03) :
    execReadStationStatus s = .next (s.dropCommand.onRange c fun first last =>
      (s.dropCommand.removeUnread first last).answer c .done (s.rangeReport first last)) :=
  State.takeCommand_mine h (Command.hasCode_of_code hc) _

theorem execWriteSettings_taken {s : State} {c : Command} (h : s.canTake c) (hc : c.code = 0x04) :
    execWriteSettings s = .next (s.dropCommand.withLength c 6
      ((s.dropCommand.setSettings (readSettings c.params).value).answer c
        (clampedCode (readSettings c.params).clamps) (writeSettings (readSettings c.params).value))) :=
  State.takeCommand_mine h (Command.hasCode_of_code hc) _

theorem execReadSettings_taken {s : State} {c : Command} (h : s.canTake c) (hc : c.code = 0x05) :
    execReadSettings s = .next (s.dropCommand.withLength c 0 (s.dropCommand.answer c .done (writeSettings s.ctrl.settings))) :=
  State.takeCommand_mine h (Command.hasCode_of_code hc) _

theorem execLoadTable_taken {s : State} {c : Command} (h : s.canTake c) (hc : c.code = 0x06) :
    execLoadTable s = .next (if c.params.length < 3 then s.dropCommand.answer c .malformed []
      else match readTableId (at8 c.params 0) with
        | none => s.dropCommand.answer c .noSuchTable []
        | some table => s.dropCommand.loadInto c table) :=
  State.takeCommand_mine h (Command.hasCode_of_code hc) _

theorem execReadTable_taken {s : State} {c : Command} (h : s.canTake c) (hc : c.code = 0x07) :
    execReadTable s = .next (s.dropCommand.withLength c 4 (s.dropCommand.reportTable c)) :=
  State.takeCommand_mine h (Command.hasCode_of_code hc) _

theorem execCopyBank_taken {s : State} {c : Command} (h : s.canTake c) (hc : c.code = 0x08) :
    execCopyBank s = .next (s.dropCommand.withLength c 0
      (if s.ctrl.scheduled.isSome then s.dropCommand.answer c .switchPending []
      else (s.dropCommand.setShadow s.ctrl.active).answer c .done [])) :=
  State.takeCommand_mine h (Command.hasCode_of_code hc) _

theorem execSwitchBank_taken {s : State} {c : Command} (h : s.canTake c) (hc : c.code = 0x09) :
    execSwitchBank s = .next (s.dropCommand.withLength c 5
      (match readSwitchPoint c.params with
      | none => s.dropCommand.answer c .noSuchTable []
      | some p =>
        if s.ctrl.scheduled.isSome then s.dropCommand.answer c .switchPending []
        else (s.dropCommand.schedule p).answer c .done [])) :=
  State.takeCommand_mine h (Command.hasCode_of_code hc) _

theorem execCancelSwitch_taken {s : State} {c : Command} (h : s.canTake c) (hc : c.code = 0x0A) :
    execCancelSwitch s = .next (s.dropCommand.withLength c 0
      (if s.ctrl.scheduled.isNone || s.ctrl.marks.any || s.someSwitched then s.dropCommand.answer c .wrongState []
      else s.dropCommand.withdraw.answer c .done [])) :=
  State.takeCommand_mine h (Command.hasCode_of_code hc) _

theorem execRestartDetectors_taken {s : State} {c : Command} (h : s.canTake c) (hc : c.code = 0x0B) :
    execRestartDetectors s = .next (s.dropCommand.onRange c fun first last =>
      (s.dropCommand.restartRange first last).answer c .done []) :=
  State.takeCommand_mine h (Command.hasCode_of_code hc) _

theorem execListEvents_taken {s : State} {c : Command} (h : s.canTake c) (hc : c.code = 0x0C) :
    execListEvents s = .next (s.dropCommand.withLength c 0 (s.dropCommand.answer c .done s.eventList)) :=
  State.takeCommand_mine h (Command.hasCode_of_code hc) _

theorem execReadEvent_taken {s : State} {c : Command} (h : s.canTake c) (hc : c.code = 0x0D) :
    execReadEvent s = .next (s.dropCommand.withLength c 2
      (match (s.findRecord (at16 c.params 0)).bind s.record with
      | some r => s.dropCommand.answer c .done r.details
      | none => s.dropCommand.answer c .noSuchEvent [])) :=
  State.takeCommand_mine h (Command.hasCode_of_code hc) _

theorem execFetch_taken {s : State} {c : Command} (h : s.canTake c) (hc : c.code = 0x0E) :
    execFetch s = .next (s.dropCommand.withLength c 3
      (match readSelection (at8 c.params 2) with
      | none => s.dropCommand.answer c .noSuchTable []
      | some sel =>
        match s.findRecord (at16 c.params 0) with
        | none => s.dropCommand.answer c .noSuchEvent []
        | some p =>
          match s.record p with
          | none => s.dropCommand.answer c .noSuchEvent []
          | some r => s.dropCommand.fetchRecord c p r sel)) :=
  State.takeCommand_mine h (Command.hasCode_of_code hc) _

theorem execCancelReadout_taken {s : State} {c : Command} (h : s.canTake c) (hc : c.code = 0x0F) :
    execCancelReadout s = .next (s.dropCommand.withLength c 0
      (if s.readout.streaming then (s.dropCommand.answer c .done []).cancelReadout
      else s.dropCommand.answer c .wrongState [])) :=
  State.takeCommand_mine h (Command.hasCode_of_code hc) _

theorem execRelease_taken {s : State} {c : Command} (h : s.canTake c) (hc : c.code = 0x10) :
    execRelease s = .next (s.dropCommand.withLength c 2
      (match s.findRecord (at16 c.params 0) with
      | none => s.dropCommand.answer c .noSuchEvent []
      | some p =>
        match s.record p with
        | none => s.dropCommand.answer c .noSuchEvent []
        | some r => s.dropCommand.releaseRecord c p r)) :=
  State.takeCommand_mine h (Command.hasCode_of_code hc) _

end Sys2Proof.Machine
end

