-- ==== Sys2Proof/Laws/Tables.lean ====
section
/-! SUPPORT. Loading and reading tables (R154, R155): which entries a load changes, and when its range is
valid. -/

namespace Sys2Proof.Machine

/-- R154, step 3. -/
theorem TableId.rangeOk_iff (t : TableId) (first count : Nat) : t.rangeOk first count = true ↔
    1 ≤ count ∧ first + count ≤ t.entries ∧ (t = .neighbours → count ≤ 32) := by
  unfold TableId.rangeOk
  rw [Bool.and_eq_true, Bool.and_eq_true, decide_eq_true_iff, decide_eq_true_iff, decide_eq_true_iff]
  cases t <;> simp [TableId.entries, TableId.maxCount] <;> omega

/-- R154: a load of one entry changes no other entry. -/
theorem Bank.load_other (b : Bank) (t : TableId) (n : Nat) (bs : List Byte) (o : TableId) (m : Nat)
    (hm : m < o.entries) (hn : n < t.entries) (h : o ≠ t ∨ m ≠ n) :
    (b.load t n bs).value.entryBytes o m = b.entryBytes o m := by
  cases t <;> cases o <;> simp_all [Bank.load, Bank.entryBytes, TableId.entries]
  all_goals
    have h' : n ≠ m := fun e => h e.symm
    simp [Vector.getElem_set_ne, h']

/-- R154: what a load stores at its entry, and its clamps, do not depend on the bank. -/
theorem Bank.load_same (b b' : Bank) (t : TableId) (n : Nat) (bs : List Byte) (hn : n < t.entries) :
    (b.load t n bs).value.entryBytes t n = (b'.load t n bs).value.entryBytes t n ∧
      (b.load t n bs).clamps = (b'.load t n bs).clamps := by
  cases t <;> simp_all [Bank.load, Bank.entryBytes, TableId.entries]

/-- R154, step 6: a load of several entries stores each entry from its own slice, changes no other, and
clamps nothing exactly when no entry is clamped. -/
theorem Bank.loadAll_spec (t : TableId) : ∀ (count first : Nat) (b b0 : Bank) (bs : List Byte),
    first + count ≤ t.entries →
    (∀ n, first ≤ n → n < first + count →
      (b.loadAll t first count bs).value.entryBytes t n =
        (b0.load t n ((bs.drop ((n - first) * t.entrySize)).take t.entrySize)).value.entryBytes t n) ∧
    (∀ o n, n < o.entries → (o ≠ t ∨ n < first ∨ first + count ≤ n) →
      (b.loadAll t first count bs).value.entryBytes o n = b.entryBytes o n) ∧
    ((b.loadAll t first count bs).clamps = 0 ↔ ∀ k, k < count →
      (b0.load t (first + k) ((bs.drop (k * t.entrySize)).take t.entrySize)).clamps = 0)
  | 0, first, b, b0, bs, h => by
    refine ⟨fun n h1 h2 => by omega, fun o n _ _ => rfl, by simp [Bank.loadAll]⟩
  | count + 1, first, b, b0, bs, h => by
    obtain ⟨h1, h2, h3⟩ := Bank.loadAll_spec t count (first + 1)
      (b.load t first (bs.take t.entrySize)).value b0 (bs.drop t.entrySize) (by omega)
    refine ⟨?_, ?_, ?_⟩
    · intro n ha hb
      by_cases e : n = first
      · subst e
        simp only [Bank.loadAll, Nat.sub_self, Nat.zero_mul, List.drop_zero]
        rw [h2 t n (by omega) (by omega)]
        exact (Bank.load_same _ _ _ _ _ (by omega)).1
      · rw [Bank.loadAll]
        rw [h1 n (by omega) (by omega), List.drop_drop]
        have : t.entrySize + (n - (first + 1)) * t.entrySize = (n - first) * t.entrySize := by
          have : n - first = (n - (first + 1)) + 1 := by omega
          rw [this, Nat.add_mul, Nat.one_mul, Nat.add_comm]
        rw [this]
    · intro o n ho hh
      have hh' : o ≠ t ∨ n < first + 1 ∨ first + 1 + count ≤ n := by
        rcases hh with hh | hh | hh
        · exact Or.inl hh
        · right; omega
        · right; omega
      have hn : o ≠ t ∨ n ≠ first := by
        rcases hh with hh | hh | hh
        · exact Or.inl hh
        · right; omega
        · right; omega
      rw [Bank.loadAll, h2 o n ho hh']
      exact Bank.load_other _ _ _ _ _ _ ho (by omega) hn
    · simp only [Bank.loadAll]
      rw [Nat.add_eq_zero_iff, h3]
      constructor
      · rintro ⟨ha, hb⟩ k hk
        cases k with
        | zero => simpa using ((Bank.load_same b b0 t first _ (by omega)).2 ▸ ha)
        | succ k =>
          have := hb k (by omega)
          rw [List.drop_drop] at this
          rw [show first + (k + 1) = first + 1 + k by omega, Nat.add_mul, Nat.one_mul, Nat.add_comm (k * _)]
          exact this
      · intro hh
        refine ⟨?_, ?_⟩
        · have := hh 0 (by omega)
          rw [(Bank.load_same b b0 t first _ (by omega)).2]
          simpa using this
        · intro k hk
          have := hh (k + 1) (by omega)
          rw [List.drop_drop]
          rw [show first + (k + 1) = first + 1 + k by omega, Nat.add_mul, Nat.one_mul, Nat.add_comm (k * _)] at this
          exact this

end Sys2Proof.Machine
end

