-- ==== Sys2Proof/Laws/Layouts.lean ====
section
/-! SUPPORT. Byte layouts (R165 to R167): reading back what was written, and the clamping of values that
are already in range. -/

namespace Sys2Proof.Machine

/-! ## Fields -/

theorem byte_toNat (n : Nat) (h : n < 256) : (byte n).toNat = n := by
  simp only [byte, BitVec.toNat_ofNat]
  omega

theorem byte_at8 (bs : List Byte) (k : Nat) : byte (at8 bs k) = bs.getD k 0 := by
  simp only [byte, at8, BitVec.ofNat_toNat, BitVec.setWidth_eq]

theorem at8_lt (bs : List Byte) (k : Nat) : at8 bs k < 256 := (bs.getD k 0).isLt

theorem at16_lt (bs : List Byte) (k : Nat) : at16 bs k < 65536 := by
  have h1 := at8_lt bs k
  have h2 := at8_lt bs (k + 1)
  unfold at16
  omega

@[simp] theorem at8_cons_zero (b : Byte) (bs : List Byte) : at8 (b :: bs) 0 = b.toNat := rfl

@[simp] theorem at8_cons_succ (b : Byte) (bs : List Byte) (k : Nat) : at8 (b :: bs) (k + 1) = at8 bs k := rfl

@[simp] theorem at16_cons_succ (b : Byte) (bs : List Byte) (k : Nat) : at16 (b :: bs) (k + 1) = at16 bs k := rfl

@[simp] theorem be16_length (n : Nat) : (be16 n).length = 2 := rfl

@[simp] theorem be32_length (n : Nat) : (be32 n).length = 4 := rfl

/-- R165: a two-byte field reads back. -/
theorem at16_be16 (n : Nat) (h : n < 65536) (rest : List Byte) : at16 (be16 n ++ rest) 0 = n := by
  have h1 : at8 (be16 n ++ rest) 0 = n / 256 := byte_toNat _ (by omega)
  have h2 : at8 (be16 n ++ rest) 1 = n % 256 := by
    show (BitVec.ofNat 8 n).toNat = n % 256
    rw [BitVec.toNat_ofNat]
  rw [at16, h1, h2]
  omega

/-- R165: past a two-byte field. -/
theorem at8_be16 (n : Nat) (rest : List Byte) (k : Nat) : at8 (be16 n ++ rest) (k + 2) = at8 rest k := rfl

theorem at16_skip16 (n : Nat) (rest : List Byte) (k : Nat) : at16 (be16 n ++ rest) (k + 2) = at16 rest k := rfl

theorem at8_markByte (b : Bool) : (markByte b).toNat = b.toNat := by cases b <;> rfl

/-! ## Clamping -/

/-- A value in range is stored as it is. -/
theorem clampTo_of_mem {lo hi n : Nat} (h1 : lo ≤ n) (h2 : n ≤ hi) : clampTo lo hi n = (n, 0) := by
  rw [clampTo, if_neg (by omega), if_neg (by omega)]

/-- A value is brought into range. -/
theorem clampTo_mem {lo hi : Nat} (h : lo ≤ hi) (n : Nat) :
    lo ≤ (clampTo lo hi n).1 ∧ (clampTo lo hi n).1 ≤ hi := by
  unfold clampTo
  split
  · exact ⟨Nat.le_refl _, h⟩
  · split
    · exact ⟨h, Nat.le_refl _⟩
    · constructor <;> simp only <;> omega

theorem clampCode_toNat (other b : Bool) : clampCode other b.toNat = (b, 0) := by cases b <;> rfl

theorem readRole_code (r : Role) : readRole r.code = (r, 0) := by cases r <;> rfl

theorem readMode_code (m : Mode) : readMode m.code = (m, 0) := by cases m <;> rfl

theorem readSet_val (x : Fin 8) : readSet x.val = (x, 0) := by rw [readSet, dif_pos x.isLt]

theorem readCaptureSet_code (x : CaptureSet) : readCaptureSet x.code = (x, 0) := by cases x <;> rfl

theorem readRetention_code (x : Retention) : readRetention x.code = (x, 0) := by cases x <;> rfl

theorem Role.code_lt (r : Role) : r.code < 4 := by cases r <;> decide

theorem Mode.code_lt (m : Mode) : m.code < 2 := by cases m <;> decide

/-- A byte of two nibbles. -/
theorem byte_nibbles {hi lo : Nat} (h1 : hi < 16) (h2 : lo < 16) :
    highNibble (byte (hi * 16 + lo)).toNat = hi ∧ lowNibble (byte (hi * 16 + lo)).toNat = lo := by
  rw [byte_toNat _ (by omega), highNibble, lowNibble]
  omega

end Sys2Proof.Machine
end

