-- ==== Sys2Proof/Laws/Memory.lean ====
section
/-! SUPPORT. The basic laws of the sample memory: a read after a write to the same address gives what
was written, a write leaves every other address alone, and every operation keeps the canonical form. -/

namespace Sys2Proof.Machine

section Cells

variable {α : Type} [DecidableEq α] {dflt : α}

theorem cellsWfFrom_mono {lo lo' : Nat} (h : lo' ≤ lo) : ∀ {m : List (Nat × α)},
    cellsWfFrom dflt lo m = true → cellsWfFrom dflt lo' m = true
  | [], _ => rfl
  | c :: rest, hw => by
    simp only [cellsWfFrom, Bool.and_eq_true, decide_eq_true_eq] at hw ⊢
    exact ⟨⟨by omega, hw.1.2⟩, hw.2⟩

/-- Below the first address of a canonical list every address reads as unlisted. -/
theorem readCell_below {lo k : Nat} (hk : k < lo) : ∀ {m : List (Nat × α)},
    cellsWfFrom dflt lo m = true → readCell dflt m k = dflt
  | [], _ => rfl
  | c :: rest, hw => by
    simp only [cellsWfFrom, Bool.and_eq_true, decide_eq_true_eq] at hw
    have hne : k ≠ c.1 := by omega
    simp only [readCell, hne, ↓reduceIte]
    exact readCell_below (by omega) hw.2

/-- Read after write, at the address written. -/
theorem readCell_writeCell_same (k : Nat) (v : α) : ∀ {lo : Nat} {m : List (Nat × α)},
    cellsWfFrom dflt lo m = true → readCell dflt (writeCell dflt m k v) k = v
  | _, [], _ => by
    by_cases h : v = dflt
    · simp [writeCell, readCell, h]
    · simp [writeCell, readCell, h]
  | lo, c :: rest, hw => by
    simp only [cellsWfFrom, Bool.and_eq_true, decide_eq_true_eq] at hw
    simp only [writeCell]
    split
    · rename_i hlt
      split
      · rename_i hd
        have hne : k ≠ c.1 := by omega
        simp only [readCell, hne, ↓reduceIte, hd]
        exact readCell_below (lo := c.1 + 1) (by omega) hw.2
      · simp [readCell]
    · split
      · rename_i heq
        split
        · rename_i hd
          rw [hd]
          exact readCell_below (lo := c.1 + 1) (by omega) hw.2
        · simp [readCell]
      · rename_i hne
        simp only [readCell, hne, ↓reduceIte]
        exact readCell_writeCell_same k v hw.2

/-- Read after write, at every other address. -/
theorem readCell_writeCell_other {k j : Nat} (v : α) (h : j ≠ k) : ∀ {lo : Nat} {m : List (Nat × α)},
    cellsWfFrom dflt lo m = true → readCell dflt (writeCell dflt m k v) j = readCell dflt m j
  | _, [], _ => by
    by_cases hd : v = dflt <;> simp [writeCell, readCell, hd, h]
  | lo, c :: rest, hw => by
    simp only [cellsWfFrom, Bool.and_eq_true, decide_eq_true_eq] at hw
    simp only [writeCell]
    split
    · split <;> simp [readCell, h]
    · split
      · rename_i heq
        have hj : j ≠ c.1 := by omega
        split <;> simp [readCell, h, hj]
      · by_cases hj : j = c.1
        · simp [readCell, hj]
        · simp only [readCell, hj, ↓reduceIte]
          exact readCell_writeCell_other v h hw.2

theorem writeCell_wfFrom (k : Nat) (v : α) : ∀ {lo : Nat} {m : List (Nat × α)},
    cellsWfFrom dflt lo m = true → cellsWfFrom dflt (min lo k) (writeCell dflt m k v) = true
  | _, [], _ => by
    by_cases h : v = dflt
    · simp [writeCell, cellsWfFrom, h]
    · simp [writeCell, cellsWfFrom, h]
  | lo, c :: rest, hw => by
    have hw' := hw
    simp only [cellsWfFrom, Bool.and_eq_true, decide_eq_true_eq] at hw
    simp only [writeCell]
    split
    · rename_i hlt
      split
      · exact cellsWfFrom_mono (Nat.min_le_left _ _) hw'
      · rename_i hd
        simp only [cellsWfFrom, Bool.and_eq_true, decide_eq_true_eq]
        exact ⟨⟨Nat.min_le_right _ _, hd⟩, ⟨by omega, hw.1.2⟩, hw.2⟩
    · split
      · rename_i heq
        split
        · exact cellsWfFrom_mono (by omega) hw.2
        · rename_i hd
          simp only [cellsWfFrom, Bool.and_eq_true, decide_eq_true_eq]
          exact ⟨⟨Nat.min_le_right _ _, hd⟩, by rw [heq]; exact hw.2⟩
      · rename_i hge hne
        have ih := writeCell_wfFrom k v hw.2
        have hmin : min (c.1 + 1) k = c.1 + 1 := by omega
        rw [hmin] at ih
        simp only [cellsWfFrom, Bool.and_eq_true, decide_eq_true_eq]
        exact ⟨⟨Nat.le_trans (Nat.min_le_left _ _) hw.1.1, hw.1.2⟩, ih⟩

/-- A write keeps the canonical form. -/
theorem writeCell_wf {m : List (Nat × α)} (k : Nat) (v : α) (h : cellsWf dflt m = true) :
    cellsWf dflt (writeCell dflt m k v) = true :=
  cellsWfFrom_mono (Nat.zero_le _) (writeCell_wfFrom k v h)

/-- Two canonical lists that read alike at every address are one list. -/
theorem cells_ext : ∀ {lo : Nat} {m m' : List (Nat × α)}, cellsWfFrom dflt lo m = true →
    cellsWfFrom dflt lo m' = true → (∀ k, readCell dflt m k = readCell dflt m' k) → m = m'
  | _, [], [], _, _, _ => rfl
  | lo, [], c :: rest, _, h', he => by
    simp only [cellsWfFrom, Bool.and_eq_true, decide_eq_true_eq] at h'
    have := he c.1
    simp only [readCell, ↓reduceIte] at this
    exact absurd this.symm h'.1.2
  | lo, c :: rest, [], h, _, he => by
    simp only [cellsWfFrom, Bool.and_eq_true, decide_eq_true_eq] at h
    have := he c.1
    simp only [readCell, ↓reduceIte] at this
    exact absurd this h.1.2
  | lo, c :: rest, d :: rest', h, h', he => by
    simp only [cellsWfFrom, Bool.and_eq_true, decide_eq_true_eq] at h h'
    have hcd : c.1 = d.1 := by
      rcases Nat.lt_trichotomy c.1 d.1 with hlt | heq | hgt
      · have e := he c.1
        have hb : readCell dflt (d :: rest') c.1 = dflt := by
          simp only [readCell, Nat.ne_of_lt hlt, ↓reduceIte]
          exact readCell_below (lo := d.1 + 1) (by omega) h'.2
        rw [hb] at e
        simp only [readCell, ↓reduceIte] at e
        exact absurd e h.1.2
      · exact heq
      · have e := he d.1
        have hb : readCell dflt (c :: rest) d.1 = dflt := by
          simp only [readCell, Nat.ne_of_lt hgt, ↓reduceIte]
          exact readCell_below (lo := c.1 + 1) (by omega) h.2
        rw [hb] at e
        simp only [readCell, ↓reduceIte] at e
        exact absurd e.symm h'.1.2
    have hv : c.2 = d.2 := by
      have e := he c.1
      simp only [readCell, hcd, ↓reduceIte] at e
      exact e
    have hrest : rest = rest' := by
      refine cells_ext h.2 (by rw [hcd]; exact h'.2) fun k => ?_
      by_cases hk : k = c.1
      · rw [readCell_below (lo := c.1 + 1) (by omega) h.2,
          readCell_below (lo := d.1 + 1) (by omega) h'.2]
      · have e := he k
        have hk' : k ≠ d.1 := by omega
        simpa only [readCell, hk, hk', ↓reduceIte] using e
    rw [hrest, Prod.ext hcd hv]

end Cells

/-! ## Rings and blocks -/

theorem Memory.wf_rings {m : SampleMemory} (h : Memory.wf m = true) : cellsWf RingSlot.reset m.rings = true := by
  simp only [Memory.wf, Bool.and_eq_true] at h
  exact h.1

theorem Memory.wf_blocks {m : SampleMemory} (h : Memory.wf m = true) :
    cellsWf BlockPlace.reset m.blocks = true := by
  simp only [Memory.wf, Bool.and_eq_true] at h
  exact h.2

theorem SampleMemory.writeRing_wf {m : SampleMemory} (st : Station) (i : Index) (x : RingSlot)
    (h : Memory.wf m = true) : Memory.wf (m.writeRing st i x) = true := by
  simp only [Memory.wf, SampleMemory.writeRing, Bool.and_eq_true]
  exact ⟨writeCell_wf _ _ (Memory.wf_rings h), Memory.wf_blocks h⟩

theorem SampleMemory.writeBlock_wf {m : SampleMemory} (b p : Nat) (x : BlockPlace)
    (h : Memory.wf m = true) : Memory.wf (m.writeBlock b p x) = true := by
  simp only [Memory.wf, SampleMemory.writeBlock, Bool.and_eq_true]
  exact ⟨Memory.wf_rings h, writeCell_wf _ _ (Memory.wf_blocks h)⟩

theorem SampleMemory.writeChain_wf {m : SampleMemory} (chain : List (Option Nat)) (o : Nat) (x : BlockPlace)
    (h : Memory.wf m = true) : Memory.wf (m.writeChain chain o x) = true := by
  simp only [SampleMemory.writeChain]
  split
  · exact SampleMemory.writeBlock_wf _ _ _ h
  · exact h

/-- The two ring addresses of two stations, or of two indices of different residue, differ. -/
theorem ringAddress_inj {st st' : Station} {i i' : Index} (h : ringAddress st i = ringAddress st' i') :
    st = st' ∧ i.toNat % 4096 = i'.toNat % 4096 := by
  have e : st.val * 4096 + i.toNat % 4096 = st'.val * 4096 + i'.toNat % 4096 := h
  have h1 : i.toNat % 4096 < 4096 := Nat.mod_lt _ (by decide)
  have h2 : i'.toNat % 4096 < 4096 := Nat.mod_lt _ (by decide)
  exact ⟨Fin.ext (by omega), by omega⟩

theorem SampleMemory.ringSlot_writeRing_same {m : SampleMemory} (st : Station) (i : Index) (x : RingSlot)
    (h : Memory.wf m = true) : (m.writeRing st i x).ringSlot st i = x :=
  readCell_writeCell_same _ _ (Memory.wf_rings h)

theorem SampleMemory.ringSlot_writeRing_other {m : SampleMemory} {st st' : Station} {i i' : Index} (x : RingSlot)
    (h : Memory.wf m = true) (hne : st' ≠ st ∨ i'.toNat % 4096 ≠ i.toNat % 4096) :
    (m.writeRing st i x).ringSlot st' i' = m.ringSlot st' i' := by
  refine readCell_writeCell_other _ (fun e => ?_) (Memory.wf_rings h)
  have := ringAddress_inj e
  rcases hne with h' | h'
  · exact h' this.1
  · exact h' this.2

@[simp] theorem SampleMemory.writeRing_blocks (m : SampleMemory) (st : Station) (i : Index) (x : RingSlot) :
    (m.writeRing st i x).blocks = m.blocks := rfl

@[simp] theorem SampleMemory.writeBlock_rings (m : SampleMemory) (b p : Nat) (x : BlockPlace) :
    (m.writeBlock b p x).rings = m.rings := rfl

@[simp] theorem SampleMemory.writeChain_rings (m : SampleMemory) (chain : List (Option Nat)) (o : Nat)
    (x : BlockPlace) : (m.writeChain chain o x).rings = m.rings := by
  simp only [SampleMemory.writeChain]
  split <;> rfl

theorem SampleMemory.blockPlace_writeBlock_same {m : SampleMemory} (b p : Nat) (x : BlockPlace)
    (h : Memory.wf m = true) : (m.writeBlock b p x).blockPlace b p = x :=
  readCell_writeCell_same _ _ (Memory.wf_blocks h)

theorem SampleMemory.blockPlace_writeBlock_other {m : SampleMemory} {b p b' p' : Nat} (x : BlockPlace)
    (h : Memory.wf m = true) (hp : p < 256) (hp' : p' < 256) (hne : b' ≠ b ∨ p' ≠ p) :
    (m.writeBlock b p x).blockPlace b' p' = m.blockPlace b' p' := by
  refine readCell_writeCell_other _ (fun e => ?_) (Memory.wf_blocks h)
  have e' : b' * 256 + p' = b * 256 + p := e
  omega

/-- The sample memory right after reset is canonical. -/
theorem State.reset_memory_wf : Memory.wf State.reset.mem = true := rfl

end Sys2Proof.Machine
end

