-- ==== Sys2Proof/Laws/PerInstr.lean ====
section
/-! SUPPORT. One fact for every command, as syntax: it is well formed exactly when the stations, record places
and strap values that it names exist. -/

namespace Sys2Proof.Laws.OperandsExist

/-- The station numbers that a command names. -/
def stations : Instr → List Nat
  | .lineFrameReceived _ _ => []
  | .silenceTimerExpiry _ => []
  | .fieldCommandTxStart _ => []
  | .fieldCommandTxDone _ => []
  | .takeInstant => []
  | .warmupEnd station => [station]
  | .debounceComplete station => [station]
  | .onMaxDuration station => [station]
  | .holdEnd station => [station]
  | .detectorLineLeave _ => []
  | .associatorTakePick => []
  | .associatorTakeLineMark => []
  | .declareMessageTaken => []
  | .bulkCopyRead _ station => [station]
  | .closeMessageTaken => []
  | .downlinkFrameReceived _ => []
  | .arbiterChoice => []
  | .uplinkTxDone => []
  | .stageDataFrame => []
  | .identify => []
  | .readStatus => []
  | .readStationStatus => []
  | .writeSettings => []
  | .readSettings => []
  | .loadTable => []
  | .readTable => []
  | .copyBank => []
  | .switchBank => []
  | .cancelSwitch => []
  | .switchedReport _ => []
  | .restartDetectors => []
  | .listEvents => []
  | .readEvent => []
  | .fetch => []
  | .cancelReadout => []
  | .release => []
  | .unknownCommand => []
  | .resetEngine => []
  | .resetFull => []
  | .rstnAsserted => []
  | .rstnReleased _ => []
  | .trdyAsserted => []
  | .trdyWithdrawn => []
  | .reset => []

/-- The record places that a command names. -/
def places : Instr → List Nat
  | .lineFrameReceived _ _ => []
  | .silenceTimerExpiry _ => []
  | .fieldCommandTxStart _ => []
  | .fieldCommandTxDone _ => []
  | .takeInstant => []
  | .warmupEnd _ => []
  | .debounceComplete _ => []
  | .onMaxDuration _ => []
  | .holdEnd _ => []
  | .detectorLineLeave _ => []
  | .associatorTakePick => []
  | .associatorTakeLineMark => []
  | .declareMessageTaken => []
  | .bulkCopyRead place _ => [place]
  | .closeMessageTaken => []
  | .downlinkFrameReceived _ => []
  | .arbiterChoice => []
  | .uplinkTxDone => []
  | .stageDataFrame => []
  | .identify => []
  | .readStatus => []
  | .readStationStatus => []
  | .writeSettings => []
  | .readSettings => []
  | .loadTable => []
  | .readTable => []
  | .copyBank => []
  | .switchBank => []
  | .cancelSwitch => []
  | .switchedReport _ => []
  | .restartDetectors => []
  | .listEvents => []
  | .readEvent => []
  | .fetch => []
  | .cancelReadout => []
  | .release => []
  | .unknownCommand => []
  | .resetEngine => []
  | .resetFull => []
  | .rstnAsserted => []
  | .rstnReleased _ => []
  | .trdyAsserted => []
  | .trdyWithdrawn => []
  | .reset => []

/-- The strap values that a command carries. -/
def straps : Instr → List Nat
  | .lineFrameReceived _ _ => []
  | .silenceTimerExpiry _ => []
  | .fieldCommandTxStart _ => []
  | .fieldCommandTxDone _ => []
  | .takeInstant => []
  | .warmupEnd _ => []
  | .debounceComplete _ => []
  | .onMaxDuration _ => []
  | .holdEnd _ => []
  | .detectorLineLeave _ => []
  | .associatorTakePick => []
  | .associatorTakeLineMark => []
  | .declareMessageTaken => []
  | .bulkCopyRead _ _ => []
  | .closeMessageTaken => []
  | .downlinkFrameReceived _ => []
  | .arbiterChoice => []
  | .uplinkTxDone => []
  | .stageDataFrame => []
  | .identify => []
  | .readStatus => []
  | .readStationStatus => []
  | .writeSettings => []
  | .readSettings => []
  | .loadTable => []
  | .readTable => []
  | .copyBank => []
  | .switchBank => []
  | .cancelSwitch => []
  | .switchedReport _ => []
  | .restartDetectors => []
  | .listEvents => []
  | .readEvent => []
  | .fetch => []
  | .cancelReadout => []
  | .release => []
  | .unknownCommand => []
  | .resetEngine => []
  | .resetFull => []
  | .rstnAsserted => []
  | .rstnReleased straps => [straps]
  | .trdyAsserted => []
  | .trdyWithdrawn => []
  | .reset => []

/-- R101, R137, Table 0.2: the command is well formed exactly when all that it names exists. -/
def Statement (i : Instr) : Prop :=
  i.wf = true ↔ (∀ n ∈ stations i, n < 64) ∧ (∀ n ∈ places i, n < 32) ∧ ∀ n ∈ straps i, n < 32

/-- A command that names no station, place or strap value. -/
theorem of_none {i : Instr} (hw : i.wf = true) (h1 : stations i = []) (h2 : places i = []) (h3 : straps i = []) :
    Statement i := by
  rw [Statement, hw, h1, h2, h3]
  simp

/-- A command that names one station. -/
theorem of_station {i : Instr} {n : Nat} (hw : i.wf = stationOk n) (h1 : stations i = [n]) (h2 : places i = [])
    (h3 : straps i = []) : Statement i := by
  rw [Statement, hw, h1, h2, h3]
  simp [stationOk]

theorem lineFrameReceived (line : Line) (bytes : List Byte) : Statement (.lineFrameReceived line bytes) :=
  of_none rfl rfl rfl rfl

theorem silenceTimerExpiry (line : Line) : Statement (.silenceTimerExpiry line) :=
  of_none rfl rfl rfl rfl

theorem fieldCommandTxStart (line : Line) : Statement (.fieldCommandTxStart line) :=
  of_none rfl rfl rfl rfl

theorem fieldCommandTxDone (line : Line) : Statement (.fieldCommandTxDone line) :=
  of_none rfl rfl rfl rfl

theorem takeInstant : Statement .takeInstant :=
  of_none rfl rfl rfl rfl

theorem warmupEnd (station : Nat) : Statement (.warmupEnd station) :=
  of_station rfl rfl rfl rfl

theorem debounceComplete (station : Nat) : Statement (.debounceComplete station) :=
  of_station rfl rfl rfl rfl

theorem onMaxDuration (station : Nat) : Statement (.onMaxDuration station) :=
  of_station rfl rfl rfl rfl

theorem holdEnd (station : Nat) : Statement (.holdEnd station) :=
  of_station rfl rfl rfl rfl

theorem detectorLineLeave (line : Line) : Statement (.detectorLineLeave line) :=
  of_none rfl rfl rfl rfl

theorem associatorTakePick : Statement .associatorTakePick :=
  of_none rfl rfl rfl rfl

theorem associatorTakeLineMark : Statement .associatorTakeLineMark :=
  of_none rfl rfl rfl rfl

theorem declareMessageTaken : Statement .declareMessageTaken :=
  of_none rfl rfl rfl rfl

theorem bulkCopyRead (place : Nat) (station : Nat) : Statement (.bulkCopyRead place station) := by
  simp [Statement, stations, places, straps, Instr.wf, stationOk, placeOk, and_comm]

theorem closeMessageTaken : Statement .closeMessageTaken :=
  of_none rfl rfl rfl rfl

theorem downlinkFrameReceived (bytes : List Byte) : Statement (.downlinkFrameReceived bytes) :=
  of_none rfl rfl rfl rfl

theorem arbiterChoice : Statement .arbiterChoice :=
  of_none rfl rfl rfl rfl

theorem uplinkTxDone : Statement .uplinkTxDone :=
  of_none rfl rfl rfl rfl

theorem stageDataFrame : Statement .stageDataFrame :=
  of_none rfl rfl rfl rfl

theorem identify : Statement .identify :=
  of_none rfl rfl rfl rfl

theorem readStatus : Statement .readStatus :=
  of_none rfl rfl rfl rfl

theorem readStationStatus : Statement .readStationStatus :=
  of_none rfl rfl rfl rfl

theorem writeSettings : Statement .writeSettings :=
  of_none rfl rfl rfl rfl

theorem readSettings : Statement .readSettings :=
  of_none rfl rfl rfl rfl

theorem loadTable : Statement .loadTable :=
  of_none rfl rfl rfl rfl

theorem readTable : Statement .readTable :=
  of_none rfl rfl rfl rfl

theorem copyBank : Statement .copyBank :=
  of_none rfl rfl rfl rfl

theorem switchBank : Statement .switchBank :=
  of_none rfl rfl rfl rfl

theorem cancelSwitch : Statement .cancelSwitch :=
  of_none rfl rfl rfl rfl

theorem switchedReport (block : SwitchBlock) : Statement (.switchedReport block) :=
  of_none rfl rfl rfl rfl

theorem restartDetectors : Statement .restartDetectors :=
  of_none rfl rfl rfl rfl

theorem listEvents : Statement .listEvents :=
  of_none rfl rfl rfl rfl

theorem readEvent : Statement .readEvent :=
  of_none rfl rfl rfl rfl

theorem fetch : Statement .fetch :=
  of_none rfl rfl rfl rfl

theorem cancelReadout : Statement .cancelReadout :=
  of_none rfl rfl rfl rfl

theorem release : Statement .release :=
  of_none rfl rfl rfl rfl

theorem unknownCommand : Statement .unknownCommand :=
  of_none rfl rfl rfl rfl

theorem resetEngine : Statement .resetEngine :=
  of_none rfl rfl rfl rfl

theorem resetFull : Statement .resetFull :=
  of_none rfl rfl rfl rfl

theorem rstnAsserted : Statement .rstnAsserted :=
  of_none rfl rfl rfl rfl

theorem rstnReleased (straps : Nat) : Statement (.rstnReleased straps) := by
  simp [Statement, stations, places, OperandsExist.straps, Instr.wf, strapsOk]

theorem trdyAsserted : Statement .trdyAsserted :=
  of_none rfl rfl rfl rfl

theorem trdyWithdrawn : Statement .trdyWithdrawn :=
  of_none rfl rfl rfl rfl

theorem reset : Statement .reset :=
  of_none rfl rfl rfl rfl

end Sys2Proof.Laws.OperandsExist
end

