-- ==== Sys2Proof/Tests/Slice0.lean ====
section
/-! SUPPORT. The model's own tests, each with its source in the manual, and one witness for the hypotheses of
each statement. -/

namespace Sys2Proof.Tests

open Sys2Proof.Machine

/-! ## Small states -/

/-- The state after reset with one command in the control receive buffer. -/
def holding (c : Command) : State := { State.reset with trunk := { Trunk.reset with control := [c] } }

/-- A command addressed to unit 0 with tag 7. -/
def cmd (code : Byte) (params : List Byte) : Command := ⟨0, code, 7, params⟩

theorem holding_canTake (c : Command) : (holding c).canTake c := ⟨rfl, rfl, Nat.zero_lt_succ 3⟩

/-- The state after reset with this port for Line A. -/
def withPort (p : LinePort) : State := { State.reset with ports := ⟨p, LinePort.reset⟩ }

/-- A SAMPLE frame without present places. -/
def frame (i : Index) (marker : Byte) : SampleFrame := ⟨i, marker, Vector.replicate 32 none⟩

/-- An input-buffer entry of Line A. -/
def entry (i : Index) (fill : Nat) : InputEntry := ⟨.a, i, fill, false, Vector.replicate 32 none, 0⟩

/-- The active bank with station 0 enabled. -/
def bankOne : Bank :=
  { Bank.default with stations := Bank.default.stations.set 0 { StationEntryCfg.default with enable := true } }

/-- A state in which Line A offers a filled instant to station 0 in this condition, confirmed OK. -/
def offering (x : StationState) : State :=
  { State.reset with
    ports := ⟨{ LinePort.reset with state := .live, buffer := [entry 100 1] }, LinePort.reset⟩
    bank := { stations := DetectorBank.reset.stations.set 0 { x with confirmed := some 0 }
              lines := ⟨{ BankLine.reset with live := true }, BankLine.reset⟩ }
    ctrl := { Controller.reset with active := bankOne } }

/-- A pick of a station. -/
def pickOf (st : Station) (onset : Index) : Pick := ⟨st, onset, 100, 0, false, false⟩

/-- A candidate anchored at station 0 with its anchor's pick. -/
def candidateOf (state : CandidateState) (order : Nat) (deadline : Index) (quorum : Nat) : Candidate :=
  { state := state, order := order, anchor := 0, t0 := 1000, earliest := 1000, deadline := deadline
    extensions := 0, quorum := quorum, weight := 1, picks := [pickOf 0 1000] }

/-- The active bank with stations 0 and 1 enabled and station 1 a neighbour of station 0. -/
def bankTwo : Bank :=
  { bankOne with
    stations := bankOne.stations.set 1 { StationEntryCfg.default with enable := true }
    neighbours := Bank.default.neighbours.set 0 [⟨1, 50⟩] }

/-- A state of the associator: this pick queue, and this candidate in slot 3. -/
def associating (q : List QueueEntry) (c : Option Candidate) : State :=
  { State.reset with
    pickQueue := q
    assoc := { Associator.reset with slots := Associator.reset.slots.set 3 c, openOrder := 5 }
    ctrl := { Controller.reset with active := bankTwo } }

/-- A live LINE MARK of Line A. -/
def markAt (i : Index) (restart : Bool) : QueueEntry := .mark ⟨.a, true, some i, restart⟩

/-- A DECLARE message anchored at station 0. -/
def declareMsg (enable : Bool) : DeclareMsg :=
  { slot := 2, anchor := 0, t0 := 1000, earliest := 1000, picks := [pickOf 0 1000, pickOf 1 1010]
    generation := 0, captureEnable := enable, captureSet := .neighbourhood, pre := 400, post := 1600
    neighbours := [1] }

/-- A CLOSE message of slot 2. -/
def closeMsg : CloseMsg := ⟨2, [pickOf 0 1000, pickOf 1 990], 2, false⟩

/-- A station entry with one block, its bulk copy and its direct range both under way. -/
def stationEntry : StationEntry :=
  { station := 0, boundary := some 110, chain := [some 0], bulkFirst := none, bulkCount := 0, directCount := 0
    filledCount := 0, startClamped := false, lineLost := false, testData := false, bulkDone := false
    directDone := false, bulkRead := 0, bulkFilled := 0 }

/-- A window of 21 indices from 100 with that entry. -/
def window (e : StationEntry) : CaptureSection := ⟨100, 120, [e]⟩

/-- A record with that window. -/
def recordOf (state : RecordState) (c : Option CaptureSection) : Record :=
  { number := 17, state := state, order := 0, anchor := 0, t0 := 110, earliest := 105, generation := 0
    picks := [pickOf 0 110, pickOf 1 105], switchClosed := false, captureAbsent := false
    captureDisabled := c.isNone, capture := c }

/-- The state after reset with this record at place 0, and block 0 taken from the free list. -/
def recording (r : Record) : State :=
  { State.reset with capture := { CaptureEngine.reset with
      records := CaptureEngine.reset.records.set 0 (some r)
      freeList := (List.range 1024).tail } }

/-- A readout of record place 0 that is STREAMING at station 0. -/
def streaming : Readout :=
  { Readout.reset with
    streaming := true, record := some 0, number := 17, current := some 0, nextIndex := 100, remaining := 1 }

/-! ## Witnesses: for each statement with hypotheses, a state and operands that meet them -/

/-- This many notices wait, and one class is masked off with FAULT. -/
def noticing (n : Nat) (event : Bool) : State :=
  { State.reset with
    trunk := { Trunk.reset with notice := List.replicate n ⟨0, .line, 1, []⟩ }
    ctrl := { Controller.reset with settings := { Settings.default with mask := ⟨event, true, true, true, event⟩ } } }

/-- The same with the FAULT request of a dropped STATION request on its way. -/
def lostOn (n : Nat) (fault : Bool) : State :=
  { noticing n fault with ctrl := { (noticing n fault).ctrl with lostFaults := [2] } }

theorem witness_StepRunsFrontCommand :
    (∃ s : State, s.pending = [.takeInstant, .identify]) ∧
      (State.reset.pending = [] ∧ State.reset.ctrl.lostFaults = []) ∧
      ((lostOn 15 true).pending = [] ∧ (lostOn 15 true).pins.rstn = true ∧ (lostOn 15 true).ctrl.lostFaults ≠ []) :=
  ⟨⟨{ State.reset with pending := [.takeInstant, .identify] }, rfl⟩, ⟨rfl, rfl⟩, rfl, rfl, by decide⟩

theorem witness_OutcomesOfCommands :
    (Instr.warmupEnd 64).wf = false ∧ (Instr.warmupEnd 63).wf = true ∧ (Instr.bulkCopyRead 32 0).wf = false ∧
      (Instr.bulkCopyRead 31 63).wf = true ∧ (Instr.rstnReleased 32).wf = false ∧ (Instr.rstnReleased 31).wf = true ∧
      exec .stageDataFrame { State.reset with readout := { streaming with record := none } } = .fault .captureHole ∧
      ∃ t, exec .identify State.reset = .next t :=
  ⟨rfl, rfl, rfl, rfl, rfl, rfl, rfl, _, rfl⟩

theorem witness_ResetPinHoldsThePart :
    ∃ s : State, s.pins.rstn = false := ⟨{ State.reset with pins := ⟨true, false, 0⟩ }, rfl⟩

theorem witness_EveryResetClearsTheEngine :
    (∃ s t : State, exec .rstnAsserted s = .next t ∧ s.resetTo t) ∧
      (∃ s t : State, exec .resetEngine s = .next t ∧ s.resetTo t) ∧
      ∃ s t : State, exec .resetFull s = .next t ∧ s.resetTo t :=
  ⟨⟨State.reset, _, rfl, Or.inl rfl⟩,
    ⟨holding (cmd 0x11 [1]), _, rfl, Or.inr ⟨_, holding_canTake _, rfl, Or.inl ⟨rfl, rfl⟩⟩⟩,
    ⟨holding (cmd 0x11 [2]), _, rfl, Or.inr ⟨_, holding_canTake _, rfl, Or.inr ⟨rfl, rfl⟩⟩⟩⟩

theorem witness_CommandResetsByBlock :
    (holding (cmd 0x11 [1])).canTake (cmd 0x11 [1]) ∧ (holding (cmd 0x11 [2])).canTake (cmd 0x11 [2]) :=
  ⟨holding_canTake _, holding_canTake _⟩

/-- A state at the bounds of several places. -/
def crowded : State :=
  { State.reset with
    ports := ⟨{ LinePort.reset with buffer := List.replicate 4 (entry 5 0) }, LinePort.reset⟩
    trunk := { Trunk.reset with
      control := List.replicate 4 (cmd 1 []), notice := List.replicate 16 ⟨0, .line, 1, []⟩
      pass := List.replicate 8 ⟨.a, []⟩, reply := List.replicate 4 ⟨0, 1, 7, .done, []⟩ }
    pending := [.takeInstant] }

theorem witness_PlacesStayBounded : ∃ s t : State, s.placesBounded ∧ step s = .next t := by
  refine ⟨crowded, _, ?_, rfl⟩
  unfold State.placesBounded LinePort.bounded
  decide

/-- A state with one written ring slot and one written block place, and an instant offered. -/
def written : State :=
  { offering StationState.reset with
    mem := { rings := [(5, ⟨some 5, true, Samples.zero⟩)], blocks := [(300, ⟨true, Samples.zero⟩)] }
    pending := [.takeInstant] }

theorem witness_SampleMemoryStaysCanonical : ∃ s t : State, Memory.wf s.mem = true ∧ step s = .next t :=
  ⟨written, _, rfl, rfl⟩

theorem witness_ReceiverFindsSentFrames :
    (∀ b ∈ ([0x3C, 0x00] : List Byte), b ≠ 0xC3) ∧ (List.replicate 2047 (0 : Byte)).length ≤ 2047 ∧
      2047 < (0x08 : Byte).toNat * 256 + (0x00 : Byte).toNat ∧
      (List.replicate 2047 (0 : Byte)).length = (0x07 : Byte).toNat * 256 + (0xFF : Byte).toNat ∧
      (0 : Byte).toNat * 256 + (0 : Byte).toNat ≠ (crc [0x21, 0, 1, 5]).toNat :=
  ⟨by decide, Nat.le_of_eq List.length_replicate, by decide, List.length_replicate, by decide +kernel⟩

theorem witness_LineFramesTreatedByKind :
    State.reset.pins.rstn = true ∧ ([] : List Byte).length ≤ 2047 ∧
      (State.reset.port .a).rx ++ envelope 0x22 [] = envelope 0x22 [] ∧
      ((withPort { LinePort.reset with rx := (envelope 0x22 []).take 3 }).port .a).rx ++ (envelope 0x22 []).drop 3 =
        envelope 0x22 [] :=
  ⟨rfl, Nat.zero_le _, rfl, rfl⟩

/-- A SAMPLE payload of one slot, of station place 3, status CLIPPED, samples 1, −1 and 256. -/
def oneSlot : List Byte := [0, 0, 0, 9, 0, 1, 3, 1, 0, 0, 1, 0xFF, 0xFF, 0xFF, 0, 1, 0]

theorem witness_FirstSlotFillsThePlace :
    parseSample (oneSlot.set 5 0) = none ∧ parseSample (oneSlot.set 5 33) = none ∧ parseSample oneSlot.tail = none ∧
      (parseSample oneSlot).isSome = true := by decide

theorem witness_FramesBeforeLive :
    (withPort LinePort.reset).ports.a.state = .down ∧
      (∃ p : LinePort, p.state = .sync ∧ p.expected ≠ some (frame 7 0).index) ∧
      (∃ p : LinePort, p.state = .sync ∧ p.expected = some (frame 7 0).index ∧ p.run < 3) ∧
      ∃ p : LinePort, p.state = .sync ∧ p.expected = some (frame 7 0).index ∧ p.run = 3 ∧ p.buffer = [] :=
  ⟨rfl, ⟨{ LinePort.reset with state := .sync, expected := some 8 }, rfl, by decide⟩,
    ⟨{ LinePort.reset with state := .sync, expected := some 7, run := 2 }, rfl, rfl, by decide⟩,
    ⟨{ LinePort.reset with state := .sync, expected := some 7, run := 3 }, rfl, rfl, rfl, rfl⟩⟩

theorem witness_DistanceDecidesTheClass : ∃ g : Nat, g ≤ 64 := ⟨64, Nat.le_refl _⟩

theorem witness_FramesInLive :
    (withPort { LinePort.reset with state := .live, expected := some 7 }).ports.a.state = .live ∧
      (∀ i ∈ ([7, 15] : List Index), (i - 7).toNat ≤ 8) ∧
      (∀ i ∈ ([16, 2147483655] : List Index), 8 < (i - 7).toNat ∧ (i - 7).toNat ≤ 2147483648) ∧
      (∀ i ∈ ([2147483656, 6] : List Index), 8 < (i - 7).toNat ∧ 2147483648 < (i - 7).toNat) ∧
      (∃ p : LinePort, p.backward = 3) ∧ ∃ p : LinePort, p.backward < 3 :=
  ⟨rfl, by simp, by simp, by simp, ⟨{ LinePort.reset with backward := 3 }, rfl⟩,
    ⟨{ LinePort.reset with backward := 2 }, by decide⟩⟩

/-- A LIVE port with two entries and a pending overrun fill. -/
def overrun : LinePort :=
  { LinePort.reset with
    state := .live, expected := some 14, overrunFill := 3, buffer := [entry 5 0, entry 10 4] }

theorem witness_FillCountsBridgeTheGaps :
    ∃ s t : State, (∀ l, (s.port l).sequenceOk) ∧ step s = .next t := by
  refine ⟨{ withPort overrun with pending := [.takeInstant] }, _, ?_, rfl⟩
  intro l
  cases l
  · refine ⟨fun h => absurd rfl h, ⟨by decide, trivial⟩, ?_⟩
    rintro e x he hx
    cases he
    cases hx
    decide
  · exact ⟨fun _ => rfl, trivial, fun _ _ h => by cases h⟩

theorem witness_SilenceTakesTheLineDown :
    (∃ s : State, s.pins.rstn = true ∧ (s.port .a).silence.isSome = true ∧ (s.port .a).state = .sync) ∧
      ∃ s : State, s.pins.rstn = true ∧ (s.port .a).silence.isSome = true ∧ (s.port .a).state = .live :=
  ⟨⟨withPort { LinePort.reset with state := .sync, silence := some 20 }, rfl, rfl, rfl⟩,
    ⟨withPort { overrun with silence := some 1 }, rfl, rfl, rfl⟩⟩

theorem witness_FieldCommandsQueuedAndSent :
    (∃ s : State, s.pins.rstn = true ∧ (s.port .a).tx = none ∧ (s.port .a).fieldQueue = [⟨0x22, [1]⟩]) ∧
      ∃ s : State, s.pins.rstn = true ∧ (s.port .a).tx.isSome = true :=
  ⟨⟨withPort { LinePort.reset with fieldQueue := [⟨0x22, [1]⟩] }, rfl, rfl, rfl⟩,
    ⟨withPort { LinePort.reset with tx := some [] }, rfl, rfl⟩⟩

/-- A station about to end its warm-up, of the default set (2^10 instants). -/
def warming : StationState := { StationState.reset with det := .warmup, warm := 1023 }

/-- A station in PENDING with debounce count 1 and a high STA. -/
def pendingOne : StationState :=
  { StationState.reset with det := .pending, debounce := 1, sta := 1000000, detection := some ⟨90, 70, false, false⟩ }

/-- A station in ON whose count is about to reach 8000, with a high STA. -/
def onLong : StationState := { StationState.reset with det := .on, onCount := 7999, sta := 1000000 }

/-- A station in HOLD with hold count 1. -/
def holdOne : StationState := { StationState.reset with det := .hold, hold := 1 }

/-- The instant that the states of `offering` take next. -/
def offered : Instant := ⟨.a, 99, false, none⟩

theorem witness_EarlierInstantTakenFirst :
    (∀ x ∈ [warming, pendingOne, onLong, holdOne], (offering x).chosen = some offered) ∧
      ((offering warming).flowOf offered 0).transition = .warmupEnd ∧
      ((offering pendingOne).flowOf offered 0).transition = .debounceComplete ∧
      ((offering onLong).flowOf offered 0).transition = .maxDuration ∧
      ((offering holdOne).flowOf offered 0).transition = .holdEnd := by decide

theorem witness_EarlierInstantTakenFirst_lines :
    ((offering warming).port .a).buffer = [entry 100 1] ∧ (entry 100 1).taken < (entry 100 1).fill ∧
      ¬ (entry 5 0).taken < (entry 5 0).fill ∧
      (∃ s : State, (s.port .a).buffer = [] ∧ (s.port .b).buffer = []) ∧
      (∃ s : State, (s.port .a).buffer = [entry 5 0] ∧ (s.port .b).buffer = []) ∧
      (∃ s : State, (s.port .a).buffer = [] ∧ (s.port .b).buffer = [entry 5 0]) ∧
      ∃ s : State, (s.port .a).buffer = [entry 5 0] ∧ (s.port .b).buffer = [entry 4 0] :=
  ⟨rfl, by decide, by decide, ⟨State.reset, rfl, rfl⟩, ⟨withPort { LinePort.reset with buffer := [entry 5 0] }, rfl, rfl⟩,
    ⟨{ State.reset with ports := ⟨LinePort.reset, { LinePort.reset with buffer := [entry 5 0] }⟩ }, rfl, rfl⟩,
    ⟨{ State.reset with ports := ⟨{ LinePort.reset with buffer := [entry 5 0] },
      { LinePort.reset with buffer := [entry 4 0] }⟩ }, rfl, rfl⟩⟩

theorem witness_InstantActsOnItsLineOnly :
    lineOf 31 = offered.line ∧ lineOf 32 ≠ offered.line ∧ offered.index = 99 ∧ precedes 98 offered.index = true ∧
      precedes 100 offered.index = false := by decide

theorem witness_RingHoldsTheInstantTaken :
    Memory.wf written.mem = true ∧ lineOf 31 = offered.line ∧ lineOf 32 ≠ offered.line ∧
      (100 : Index).toNat % 4096 ≠ offered.index.toNat % 4096 := by decide

/-- 222 entries stand in the pick queue, 15 notices wait, and station 0 has code OK as its candidate code. -/
def confirming : State :=
  { noticing 15 true with
    pickQueue := List.replicate 222 (.pick (pickOf 1 1))
    bank := { DetectorBank.reset with
      stations := DetectorBank.reset.stations.set 0 { StationState.reset with candidate := some 0 } } }

/-- An instant of Line A in which station 0 alone is present, with code OK. -/
def okInstant : Instant := ⟨.a, 3002, false, some ((Vector.replicate 32 none).set 0 (some ⟨0, Samples.zero⟩))⟩

theorem witness_StatusCodesConfirmed :
    (∀ p, confirming.record p = none) ∧ confirming.pickQueue.length ≤ 222 ∧
      confirming.ctrl.settings.mask.station = true ∧ confirming.trunk.notice.length + 1 ≤ 16 ∧
      (okInstant.slot 0).map (fun d => readStatusCode d.status) = some 0 ∧ okInstant.slot 1 = none ∧
      (confirming.station 0).confirmed ≠ some 0 ∧ (confirming.station 0).candidate = some 0 := by
  decide +kernel

theorem witness_ActivityJudgedEachInstant :
    (∃ x : StationState, x.det = .off) ∧ (∃ x : StationState, x.det ≠ .off ∧ x.confirmed = some 2) ∧
      (∃ x : StationState, x.det = .suspended ∧ x.confirmed = some 1 ∧
        6 ≤ (Bank.default.detectorSet 0).l) ∧
      (Bank.default.station 0).enable = false ∧ (bankOne.station 0).enable = true ∧
      Bank.default.station 0 ≠ bankOne.station 0 ∧ Bank.default.detectorSet 0 = bankOne.detectorSet 0 ∧
      6 ≤ (bankOne.detectorSet 0).l ∧
      (∀ x ∈ [warming, pendingOne, onLong, holdOne], x.det ≠ .off ∧ x.det ≠ .suspended) ∧
      (receiveSlot none { onLong with confirmed := some 1 }).confirmed = some 1 :=
  ⟨⟨StationState.reset, rfl⟩, ⟨{ warming with confirmed := some 2 }, by decide, rfl⟩,
    ⟨{ StationState.reset with det := .suspended, confirmed := some 1 }, rfl, rfl, by decide⟩, rfl, rfl, by decide,
    rfl, by decide, by decide, rfl⟩

/-- The default set and entry, station 0, at instant 50. -/
def input (d m h : Nat) : DetectorInput :=
  ⟨0, StationEntryCfg.default, { DetectorSet.default with d := d, m := m, h := h }, 50, false⟩

/-- The effective LTA of a station whose LTA is 0, by the default floor: 4096. The on test is met from an STA of
16,384 on, and the off test below 6144. -/
theorem witness_DetectorTransitions :
    max (max 0 (256 * (input 4 8000 200).set.f)) 1 = 4096 ∧
      ¬ (input 4 8000 200).set.rOn * 4096 ≤ 16 * 16383 ∧ (input 4 8000 200).set.rOn * 4096 ≤ 16 * 16384 ∧
      16 * 6143 < (input 4 8000 200).set.rOff * 4096 ∧ ¬ 16 * 6144 < (input 4 8000 200).set.rOff * 4096 ∧
      0 < (input 1 8000 200).set.d ∧ (input 0 8000 200).set.d = 0 ∧ (input 4 1 200).set.m ≤ min (0 + 1) 65535 ∧
      (input 4 65535 200).set.m ≤ min (65535 + 1) 65535 ∧ (input 4 0 200).set.m = 0 ∧
      min (0 + 1) 65535 < (input 4 2 200).set.m ∧ pendingOne.detection.isSome = true ∧
      pendingOne.debounce = 1 ∧ holdOne.hold = 1 := by decide

/-- Both banks and the settings after reset lie in their ranges. -/
theorem reset_tablesInRange (q : List Instr) : ({ State.reset with pending := q } : State).tablesInRange := by
  have hb : Bank.default.inRange := by
    unfold Bank.inRange StationEntryCfg.inRange DetectorSet.inRange neighboursInRange AssocParams.inRange
    simp only [Bank.station, Bank.neighbourList, Bank.default, Fin.getElem_fin, Vector.getElem_replicate,
      StationEntryCfg.default, DetectorSet.default, AssocParams.default]
    decide
  exact ⟨hb, hb, ⟨(by decide : 1 ≤ 20), (by decide : 20 ≤ 255)⟩, (by decide : 8 ≤ 64)⟩

theorem witness_ArithmeticStaysInRange :
    (∃ s t : State, (∀ i, (s.station i).inRange) ∧ step s = .next t) ∧
      ∃ s t : State, s.tablesInRange ∧ step s = .next t := by
  refine ⟨⟨{ State.reset with pending := [.takeInstant] }, _, ?_, rfl⟩,
    { State.reset with pending := [.takeInstant] }, _, reset_tablesInRange _, rfl⟩
  unfold StationState.inRange HighPass.inRange
  decide

theorem witness_AveragesFollowTheEnergy :
    (∃ acc e : Nat, acc ≤ e ∧ e ≤ acc) ∧ (∃ n : Nat, 0 < n) ∧
      (∃ x : StationState, x.det ≠ .off ∧ x.det ≠ .suspended ∧ x.det = .warmup ∧ x.warm + 1 = 1) ∧
      ∃ x : StationState, x.det ≠ .off ∧ x.det ≠ .suspended ∧ x.det ≠ .warmup :=
  ⟨⟨5, 5, Nat.le_refl _, Nat.le_refl _⟩, ⟨1, Nat.zero_lt_one⟩,
    ⟨{ StationState.reset with det := .warmup }, by decide, by decide, rfl, rfl⟩, ⟨holdOne, by decide, by decide,
    by decide⟩⟩

/-- A line-leave reported, with a record whose entry of station 0 is still under way. -/
def leaving : State :=
  { recording (recordOf .active (some (window stationEntry))) with
    bank := { DetectorBank.reset with lines := ⟨{ BankLine.reset with live := true, leaves := 1 }, BankLine.reset⟩ } }

theorem recording_record {r : Record} {q : Fin 32} {x : Record} (h : (recording r).record q = some x) :
    q = 0 ∧ x = r := by
  have hv : (recording r).record q = (CaptureEngine.reset.records.set 0 (some r))[q.val] := rfl
  rw [hv, Vector.getElem_set] at h
  split at h
  · exact ⟨Fin.ext (by simp only [Fin.val_zero]; omega), (Option.some.inj h).symm⟩
  · simp [CaptureEngine.reset] at h

theorem leaving_nodup : ∀ p r, leaving.record p = some r → (r.entries.map StationEntry.station).Nodup := by
  intro p r h
  obtain ⟨rfl, rfl⟩ := recording_record (r := recordOf .active (some (window stationEntry))) h
  decide

theorem witness_LineLeaveSuspendsTheLine :
    leaving.pins.rstn = true ∧ 0 < (leaving.bankLine .a).leaves ∧ (leaving.bankLine .a).switch = none ∧
      (∃ b : BankLine, 0 < b.leaves ∧ b.switch = some (.atIndex 20000)) ∧
      (∀ p r, leaving.record p = some r → (r.entries.map StationEntry.station).Nodup) ∧
      ∃ r c, leaving.record 0 = some r ∧ r.capture = some c ∧ stationEntry ∈ c.entries ∧
        lineOf stationEntry.station = .a ∧ stationEntry.directDone = false ∧ lineOf 32 ≠ .a ∧
        (∃ e : StationEntry, e.directDone = true) ∧ (∃ e : StationEntry, e.directDone = false ∧ e.bulkDone = true) ∧
        leaving.record 1 = none ∧ (recordOf .active none).capture = none :=
  ⟨rfl, Nat.zero_lt_one, rfl,
    ⟨{ BankLine.reset with live := true, leaves := 1, switch := some (.atIndex 20000) }, Nat.zero_lt_one, rfl⟩,
    leaving_nodup, _, _, rfl, rfl, List.mem_singleton.mpr rfl, rfl, rfl, by decide,
    ⟨{ stationEntry with directDone := true }, rfl⟩, ⟨{ stationEntry with bulkDone := true }, rfl, rfl⟩, rfl, rfl⟩

theorem reset_switchOk (q : List Instr) : ({ State.reset with pending := q } : State).switchOk := by
  intro b
  cases b <;> exact ⟨(fun h => nomatch h), (fun h => nomatch h), rfl⟩

theorem witness_DetectorsActiveOnlyWhenAllowed : ∃ s t : State, s.detectorsOk ∧ step s = .next t := by
  refine ⟨{ State.reset with pending := [.takeInstant] }, _, ⟨reset_switchOk _, ?_⟩, rfl⟩
  unfold State.activityOk
  decide

theorem witness_PickQueueNeverOverflows :
    (∃ s t : State, pickQueueOk s.pickQueue ∧ step s = .next t) ∧
      ∃ q, pickQueueOk q ∧ q.length = 3 := by
  refine ⟨⟨{ associating [markAt 5 false] none with pending := [.associatorTakeLineMark] }, _, ?_, rfl⟩,
    ⟨[.pick (pickOf 0 3), .pick (pickOf 1 4), markAt 5 false], ?_, rfl⟩⟩
  · exact ⟨fun e h => Option.some.inj h ▸ rfl, fun e h => (nomatch h), by decide⟩
  · exact ⟨fun e h => Option.some.inj h ▸ rfl, fun e h => (nomatch h), by decide⟩

theorem witness_LineMarkCoalesces :
    (∀ e ∈ [QueueEntry.pick (pickOf 40 1)], e.line ≠ .a) ∧ (markAt 5 false).line = .a ∧
      lineOf (pickOf 0 1).station = .a := by decide

theorem witness_AdmissionConditions :
    ((bankTwo.neighbourList 0).map Neighbour.station).Nodup ∧ (⟨1, 50⟩ : Neighbour) ∈ bankTwo.neighbourList 0 ∧
      ∀ m, (⟨2, m⟩ : Neighbour) ∉ bankTwo.neighbourList 0 :=
  ⟨by decide, by decide, fun m h => by cases List.mem_singleton.mp h⟩

/-- A PICK of station 1 at 1050, 50 indices from the anchor's onset, with a candidate of this state in slot 3. -/
def joining (st : CandidateState) : State :=
  associating [.pick (pickOf 1 1050)] (some (candidateOf st 4 1050 2))

theorem witness_PickJoinsTheOldestCandidate (st : CandidateState) :
    (joining st).pins.rstn = true ∧ (joining st).channel.length + 17 ≤ 64 ∧
      entrySwitches (joining st).assoc.switch (.pick (pickOf 1 1050)) = false ∧
      ((joining st).assocBank.station 1).enable = true ∧
      (joining st).candidate 3 = some (candidateOf st 4 1050 2) ∧
      (candidateOf st 4 1050 2).admits (joining st).assocBank 1 1050 = true ∧
      ((joining st).assocBank.station 9).enable = false ∧ (joining st).candidate 0 = none := by
  cases st <;> decide +kernel

theorem witness_PickOpensACandidate :
    (∃ s : State, s.pins.rstn = true ∧ s.pickQueue = [.pick (pickOf 1 1051)] ∧
      (s.assocBank.station 1).enable = true ∧
      (candidateOf .opened 4 2000 2).admits s.assocBank 1 1051 = false ∧ s.candidate 0 = none ∧
      s.candidate 3 = some (candidateOf .opened 4 2000 2) ∧ s.assoc.openOrder = 5) ∧
      (∃ s : State, s.pins.rstn = true ∧ s.pickQueue = [.pick (pickOf 1 1051)] ∧
        (s.assocBank.station 1).enable = true ∧ (∀ k, s.candidate k = none) ∧
        s.assoc.openOrder = 4294967295) ∧
      ∃ s : State, s.pickQueue = [.pick (pickOf 1 1051)] ∧ ∀ k, s.candidate k ≠ none := by
  refine ⟨⟨associating [.pick (pickOf 1 1051)] (some (candidateOf .opened 4 2000 2)), rfl, rfl, rfl, rfl, rfl, rfl,
    rfl⟩, ⟨{ associating [.pick (pickOf 1 1051)] none with
      assoc := { Associator.reset with openOrder := 4294967295 } }, rfl, rfl, rfl, by decide, rfl⟩, ⟨{ associating [.pick (pickOf 1 1051)] none with assoc := { Associator.reset with
      slots := Vector.replicate 16 (some (candidateOf .opened 0 0 2)) } }, rfl, ?_⟩⟩
  intro k h
  simp [State.candidate] at h

theorem witness_RenumberingKeepsTheRanking :
    Associator.reset.openOrder ≠ 4294967295 ∧ ∃ a : Associator, a.openOrder = 4294967295 ∧ a.slots[(3 : Fin 16)] = some (candidateOf .opened 7 0 2) ∧
      a.slots[(4 : Fin 16)] = some (candidateOf .declared 6 0 2) :=
  ⟨by decide, { Associator.reset with
    openOrder := 4294967295
    slots := (Associator.reset.slots.set 3 (some (candidateOf .opened 7 0 2))).set 4
      (some (candidateOf .declared 6 0 2)) }, rfl, rfl, rfl⟩

/-- The watermark stands at 40, a declared candidate's deadline is 50, and Line A's mark comes with 60. -/
def advancing (restart : Bool) : State :=
  { associating [markAt 60 restart] (some (candidateOf .declared 4 50 2)) with
    assoc := { (associating [] (some (candidateOf .declared 4 50 2))).assoc with watermark := some 40 } }

theorem witness_LineMarkSetsTheView :
    (advancing true).pins.rstn = true ∧ (advancing true).pickQueue = [markAt 60 true] ∧
      (advancing true).channel.length + 17 ≤ 64 ∧
      entrySwitches (advancing true).assoc.switch (markAt 60 true) = false := by decide

theorem witness_WatermarkNeverFallsBack :
    (∃ t, exec .associatorTakeLineMark (advancing false) = .next t ∧ (advancing false).assoc.watermark = some 40) ∧
      ∃ t, exec .associatorTakeLineMark (advancing true) = .next t ∧
        ((advancing true).viewStep .a ⟨false, none⟩).assoc.watermark = some 40 ∧ t.assoc.watermark = some 60 :=
  ⟨⟨_, rfl, rfl⟩, _, rfl, rfl, rfl⟩

theorem witness_CandidatesClosedBehindWatermark :
    ∀ restart ∈ [false, true], ∃ t, exec .associatorTakeLineMark (advancing restart) = .next t ∧
      t.assoc.watermark = some 60 ∧ t.candidate 3 = none ∧ t.channel.length = 1 := by
  intro restart h
  cases restart <;> exact ⟨_, rfl, rfl, rfl, rfl⟩

/-- A switch at index 55 is pending at the associator. -/
def switching (q : List QueueEntry) : State :=
  { associating q (some (candidateOf .declared 4 50 2)) with
    assoc := { (associating q (some (candidateOf .declared 4 50 2))).assoc with switch := some (.atIndex 55) } }

theorem witness_SwitchFlushesTheCandidates :
    (∀ e ∈ [QueueEntry.pick (pickOf 1 55), markAt 55 false],
      (switching [e]).pins.rstn = true ∧ (switching [e]).pickQueue = [e] ∧
        (switching [e]).channel.length + 17 ≤ 64 ∧ entrySwitches (switching [e]).assoc.switch e = true) ∧
      entrySwitches (switching []).assoc.switch (markAt 54 false) = false ∧
      entrySwitches (switching []).assoc.switch (.pick (pickOf 1 54)) = false ∧
      64 < (List.replicate 48 (Message.close closeMsg)).length + 17 := by decide

theorem witness_PickListsHoldEachStationOnce :
    ∃ s t : State, s.pickListsOk ∧ s.channel.length = 1 ∧ step s = .next t := by
  refine ⟨{ State.reset with channel := [.close closeMsg], pending := [.closeMessageTaken] }, _, ?_, rfl, rfl⟩
  unfold State.pickListsOk picksDistinct
  refine ⟨?_, by decide, ?_⟩
  · intro k c h
    have hn : ∀ k, State.reset.candidate k = none := by decide
    exact absurd ((hn k).symm.trans h) (by simp)
  · intro p r h
    have hn : ∀ p, State.reset.record p = none := by decide
    exact absurd ((hn p).symm.trans h) (by simp)

theorem reset_record (s : State) (h : s.capture.records = CaptureEngine.reset.records) (p : Fin 32) :
    s.record p = none := by
  have hn : State.reset.record p = none := by revert p; decide
  rw [← hn]
  simp only [State.record, h]
  rfl

/-- A message waits on the event channel. -/
def sending (m : Message) : State := { State.reset with channel := [m] }

/-- What a test finds of every record holds of each. -/
theorem all_records {s : State} {P : Record → Bool} (h : ∀ p, (s.record p).all P = true) :
    ∀ p r, s.record p = some r → P r = true := by
  intro p r hr
  have := h p
  rwa [hr] at this

/-- The event table is full of READY records numbered 1 to 32, oldest first, and retention is RECYCLE. -/
def fullTable (m : DeclareMsg) : State :=
  { sending (.declare m) with
    capture := { CaptureEngine.reset with
      records := Vector.ofFn fun p => some { recordOf .ready none with number := p.val + 1, order := p.val }
      nextNumber := 33 }
    ctrl := { Controller.reset with settings := { Settings.default with retention := .recycle } } }

theorem fullTable_oldest (m : DeclareMsg) :
    (fullTable m).oldestReadyIs 0 { recordOf .ready none with number := 1, order := 0 } := by
  refine ⟨rfl, rfl, ?_⟩
  intro q x h _ hq
  simp only [State.record, fullTable, Fin.getElem_fin, Vector.getElem_ofFn, Option.some.injEq] at h
  rw [← h]
  exact Nat.pos_of_ne_zero fun h0 => hq (Fin.ext h0)

theorem witness_DeclarationGetsRecord :
    ((sending (.declare (declareMsg false))).obtains 0 (sending (.declare (declareMsg false))) [] ∧
      (declareMsg false).captureEnable = false ∧ (sending (.declare (declareMsg false))).firstUnused 1) ∧
      ({ recording { recordOf .active none with number := 65535 } with
        capture := { (recording { recordOf .active none with number := 65535 }).capture with
          nextNumber := 65535 } } : State).firstUnused 1 ∧
      (∃ b, (fullTable (declareMsg false)).obtains 0 b [1] ∧ b.firstUnused 33) ∧
      (∀ p, (fullTable (declareMsg false)).record p ≠ none) ∧ State.reset.ctrl.settings.retention = .keep ∧
      ∃ s : State, (∀ p, s.record p ≠ none) ∧ ∀ p r, s.record p = some r → r.state ≠ .ready := by
  refine ⟨⟨Or.inl ⟨rfl, by decide, rfl, rfl⟩, rfl, 0, by decide, rfl, fun j h => absurd h (Nat.not_lt_zero j), ?_⟩,
    ⟨1, by decide, rfl, ?_, ?_⟩, ⟨_, Or.inr ⟨by decide +kernel, rfl, _, fullTable_oldest _, rfl, rfl⟩, 0, by decide, rfl,
      fun j h => absurd h (Nat.not_lt_zero j), ?_⟩, by decide +kernel, rfl,
    ⟨{ State.reset with capture := { CaptureEngine.reset with
      records := Vector.replicate 32 (some (recordOf .active none)) } }, by decide, ?_⟩⟩
  · exact fun p r h => of_decide_eq_true (all_records (P := fun r => decide (r.number ≠ 1)) (by decide) p r h)
  · intro j h
    obtain rfl : j = 0 := by omega
    exact ⟨0, _, rfl, rfl⟩
  · exact fun p r h => of_decide_eq_true (all_records (P := fun r => decide (r.number ≠ 1)) (by decide) p r h)
  · exact fun p r h => of_decide_eq_true
      (all_records (P := fun r => decide (r.number ≠ 33)) (by decide +kernel) p r h)
  · exact fun p r h => of_decide_eq_true (all_records (P := fun r => decide (r.state ≠ .ready)) (by decide) p r h)

/-- Stations 0 and 1 are enabled and available, and the free list holds this many blocks. -/
def planning (blocks : Nat) : State :=
  { sending (.declare (declareMsg true)) with
    bank := { DetectorBank.reset with stations :=
      ((DetectorBank.reset.stations.set 0 { StationState.reset with det := .armed }).set 1
        { StationState.reset with det := .on }) }
    capture := { CaptureEngine.reset with freeList := List.range blocks }
    ctrl := { Controller.reset with active := bankTwo } }

theorem witness_CaptureReservedWhole :
    (planning 16).captureStations (declareMsg true) = [0, 1] ∧ (declareMsg true).pre ≤ 4095 ∧
      (declareMsg true).post ≤ 4096 ∧ (planning 16).record 0 = none ∧
      2 * ((400 + 1600 + 1 + 255) / 256) ≤ (planning 16).capture.freeList.length ∧
      (planning 15).capture.freeList.length < 2 * ((400 + 1600 + 1 + 255) / 256) ∧
      (planning 15).ctrl.settings.retention = .keep ∧
      (State.makeRoom 16 32 (planning 16)).ok = true ∧ (State.makeRoom 16 32 (planning 15)).ok = false := by
  decide

theorem witness_CaptureReservedWhole_obtains :
    (planning 16).obtains 0 (planning 16) [] ∧ (planning 16).firstUnused 1 ∧
      (∃ b, (fullTable (declareMsg true)).obtains 0 b [1] ∧ b.firstUnused 33) ∧
      (fullTable (declareMsg true)).capture.freeList.length < 1025 := by
  refine ⟨Or.inl ⟨rfl, by decide, rfl, rfl⟩, ⟨0, by decide, rfl, fun j h => absurd h (Nat.not_lt_zero j), ?_⟩,
    ⟨_, Or.inr ⟨by decide +kernel, rfl, _, fullTable_oldest _, rfl, rfl⟩, 0, by decide, rfl,
      fun j h => absurd h (Nat.not_lt_zero j), ?_⟩, ?_⟩
  · exact fun p r h => of_decide_eq_true (all_records (P := fun r => decide (r.number ≠ 1)) (by decide) p r h)
  · exact fun p r h => of_decide_eq_true
      (all_records (P := fun r => decide (r.number ≠ 33)) (by decide +kernel) p r h)
  · simp only [fullTable, CaptureEngine.reset, List.length_range]
    decide

theorem witness_WindowSplitsAtBoundary :
    (window stationEntry).size ≤ 8192 ∧ (window stationEntry).contains 110 = true ∧
      (window stationEntry).contains 111 = true ∧ (window stationEntry).contains 121 = false ∧
      atOrAfter 100 (window stationEntry).start = true ∧ atOrAfter 99 (window stationEntry).start = false ∧
      atOrAfter 500 (window stationEntry).start = true ∧
      (∀ b ∈ [(2147483748 : Index), 2147483767],
        atOrAfter b (window stationEntry).start = false ∧ atOrAfter b (window stationEntry).stop = true) :=
  ⟨by decide, rfl, rfl, rfl, rfl, rfl, rfl, by simp [window, atOrAfter, precedes]⟩

/-- A record with one entry at this point of its copy. -/
def copying (e : StationEntry) : State := recording (recordOf .filling (some (window e)))

theorem witness_BulkCopyReadsOneSlot :
    (∃ e : StationEntry, (copying e).record 0 = some (recordOf .filling (some (window e))) ∧
      e.bulkDone = false ∧ e.directDone = false) ∧
      (∃ e : StationEntry, (copying e).record 0 = some (recordOf .filling (some (window e))) ∧ e.bulkDone = true) ∧
      (∃ e : StationEntry, (copying e).record 0 = some (recordOf .filling (some (window e))) ∧
        e.bulkDone = false ∧ e.directDone = true ∧ (window e).bulkLength e.boundary = 11 ∧ e.bulkRead + 1 = 11) ∧
      ∃ e : StationEntry, (copying e).record 0 = some (recordOf .filling (some (window e))) ∧
        e.bulkDone = false ∧ e.directDone = true ∧ (window e).bulkLength e.boundary = 11 ∧ e.bulkRead + 1 = 10 :=
  ⟨⟨stationEntry, rfl, rfl, rfl⟩, ⟨{ stationEntry with bulkDone := true }, rfl, rfl⟩,
    ⟨{ stationEntry with directDone := true, bulkRead := 10 }, rfl, rfl, rfl, rfl, rfl⟩,
    ⟨{ stationEntry with directDone := true, bulkRead := 9 }, rfl, rfl, rfl, rfl, rfl⟩⟩

theorem range_head (n : Nat) : List.range (n + 1) = 0 :: (List.range (n + 1)).tail := by
  rw [List.range_succ_eq_map]
  rfl

theorem perm_head (xs : List Nat) (h : xs = 0 :: xs.tail) : List.Perm (xs.tail ++ [0]) xs :=
  List.perm_append_comm.trans (List.Perm.of_eq h.symm)

theorem one_block (c : CaptureSection) (h : Record.blocks (recordOf .filling (some c)) = [0]) :
    (recording (recordOf .filling (some c))).blocksAccounted := by
  have hr : allPlaces.filterMap (recording (recordOf .filling (some c))).record = [recordOf .filling (some c)] := rfl
  have hb : (recording (recordOf .filling (some c))).chainedBlocks = [0] := by
    rw [State.chainedBlocks, hr, List.map_singleton, h]
    rfl
  have hf : (recording (recordOf .filling (some c))).capture.freeList = (List.range 1024).tail := by
    simp only [recording]
  rw [State.blocksAccounted, hb, hf]
  generalize hx : List.range 1024 = xs
  exact perm_head xs (by rw [← hx]; exact range_head 1023)

theorem witness_DirectWritesReachEveryRecord :
    Memory.wf (copying stationEntry).mem = true ∧ (copying stationEntry).blocksAccounted ∧
      (∀ q x, (copying stationEntry).record q = some x → (x.entries.map StationEntry.station).Nodup) ∧
      (window stationEntry).directContains stationEntry 111 = true ∧
      (window stationEntry).directContains stationEntry 120 = true ∧
      (window stationEntry).directContains stationEntry 110 = false ∧ stationEntry.directDone = false ∧
      chainBlock stationEntry.chain ((window stationEntry).offset 111) = some 0 ∧
      (window stationEntry).offset 111 % 256 = 11 ∧
      completes (fun e => { e with directDone := true }) { stationEntry with bulkDone := true } = true ∧
      completes (fun e => { e with directDone := true }) stationEntry = false := by
  refine ⟨rfl, one_block _ rfl, ?_, rfl, rfl, rfl, rfl, rfl, rfl, rfl, rfl⟩
  intro q x h
  obtain ⟨rfl, rfl⟩ := recording_record h
  decide

theorem witness_CopiedRunStaysContiguous : ∃ s t : State, s.runsOk ∧ s.recordCount = 1 ∧ step s = .next t := by
  refine ⟨{ copying stationEntry with pending := [.bulkCopyRead 0 0] }, _, ?_, by decide, rfl⟩
  intro p r c hr hc e he
  obtain ⟨rfl, rfl⟩ := recording_record (r := recordOf .filling (some (window stationEntry))) hr
  cases hc
  obtain rfl := List.mem_singleton.mp he
  unfold CaptureSection.runOk
  decide

/-- An event that ends both parts of an entry. -/
def ending (e : StationEntry) : StationEntry := { e with bulkDone := true, directDone := true, directCount := 3 }

theorem witness_CompletionKeepsTheRun :
    (copying stationEntry).record 0 = some (recordOf .filling (some (window stationEntry))) ∧
      stationEntry.complete = false ∧ (ending stationEntry).complete = true := ⟨rfl, rfl, rfl⟩

/-- A CLOSE waits for slot 2, whose map entry is this. -/
def closing (e : MapEntry) : State :=
  { recording (recordOf .active none) with
    channel := [.close closeMsg]
    capture := { (recording (recordOf .active none)).capture with map := CaptureEngine.reset.map.set 2 e } }

theorem witness_CloseCompletesTheRecord :
    (∀ e ∈ [MapEntry.record 0, .unrecorded, .empty],
      (closing e).pins.rstn = true ∧ (closing e).capture.map[closeMsg.slot] = e) ∧
      (closing (.record 0)).record 0 = some (recordOf .active none) ∧ closeMsg.picks.length = 2 := by decide

theorem witness_BlocksStayAccounted : ∃ s t : State, s.blocksAccounted ∧ s.recordCount = 1 ∧ step s = .next t :=
  ⟨{ copying stationEntry with pending := [.bulkCopyRead 0 0] }, _, one_block _ rfl, by decide, rfl⟩

theorem recording_numbersOk (r : Record) (h1 : 1 ≤ r.number) (h2 : r.number ≤ 65535) : (recording r).numbersOk := by
  refine ⟨Nat.le_refl 1, (by decide : 1 ≤ 65535), ?_, ?_⟩
  · intro p x h
    obtain ⟨_, rfl⟩ := recording_record h
    exact ⟨h1, h2⟩
  · intro p q x y hx hy _
    rw [(recording_record hx).1, (recording_record hy).1]

theorem recording_ordersOk (r : Record) (h : r.order < (recording r).recordCount) : (recording r).ordersOk := by
  refine ⟨?_, ?_⟩
  · intro p x hx
    obtain ⟨_, rfl⟩ := recording_record hx
    exact h
  · intro p q x y hx hy _
    rw [(recording_record hx).1, (recording_record hy).1]

theorem witness_EventTableStaysConsistent_entries :
    ∃ s t : State, s.entriesAscend ∧ s.recordCount = 1 ∧ step s = .next t := by
  refine ⟨{ copying stationEntry with pending := [.bulkCopyRead 0 0] }, _, ?_, by decide, rfl⟩
  intro p r hr
  obtain ⟨_, rfl⟩ := recording_record (r := recordOf .filling (some (window stationEntry))) hr
  decide

theorem witness_EventTableStaysConsistent :
    ∃ s t : State, (s.numbersOk ∧ s.ordersOk ∧ s.recordStatesOk) ∧ s.recordCount = 1 ∧ step s = .next t := by
  refine ⟨{ copying stationEntry with pending := [.bulkCopyRead 0 0] }, _,
    ⟨recording_numbersOk _ (by decide) (by decide), recording_ordersOk _ (by decide), ?_⟩, by decide, rfl⟩
  refine ⟨⟨?_, ?_⟩, ⟨?_, ?_⟩, ?_⟩
  · intro k p h
    have hn : ∀ k : Fin 16, CaptureEngine.reset.map[k] = .empty := by decide
    exact absurd ((hn k).symm.trans h) (by simp)
  · intro j k p h _
    have hn : ∀ k : Fin 16, CaptureEngine.reset.map[k] = .empty := by decide
    exact absurd ((hn j).symm.trans h) (by simp)
  · intro p r hr hs
    obtain ⟨_, rfl⟩ := recording_record (r := recordOf .filling (some (window stationEntry))) hr
    cases hs
  · intro p h
    cases h
  · intro p r hr hs
    obtain ⟨_, rfl⟩ := recording_record (r := recordOf .filling (some (window stationEntry))) hr
    rcases hs with hs | hs <;> cases hs

/-- A readout of a record whose entry's only block is block 0. -/
def reading (ro : Readout) : State :=
  { recording (recordOf .reading (some (window stationEntry))) with readout := ro }

theorem witness_DataFramesStagedInTurn :
    (∀ ro ∈ [streaming, { streaming with current := none }, { streaming with cancel := true }],
      (reading ro).pins.rstn = true ∧ ro.streaming = true ∧ ro.endStaged = false ∧ (reading ro).trunk.staged = none) ∧
      (∀ k, k < min 64 streaming.remaining →
        (chainBlock stationEntry.chain ((window stationEntry).offset streaming.nextIndex + k)).isSome = true) ∧
      (∀ k, k < min 64 65 → (chainBlock [some 0, some 9] (200 + k)).isSome = true) ∧
      ∃ p r c e, streaming.record = some p ∧ streaming.current = some 0 ∧ (reading streaming).record p = some r ∧
        r.capture = some c ∧ r.entry 0 = some e ∧ e = stationEntry :=
  ⟨by decide, by decide, by decide, _, _, _, _, rfl, rfl, rfl, rfl, rfl, rfl⟩

theorem witness_DownlinkRouted :
    State.reset.pins.rstn = true ∧ State.reset.trunk.rx = [] ∧ ([0, 1, 7] : List Byte).length ≤ 2047 ∧
      ¬ ([0, 1, 7] : List Byte).length < 3 ∧ ([0, 1] : List Byte).length < 3 ∧ ([1] : List Byte).length < 2 :=
  ⟨rfl, rfl, by decide, by decide, by decide, by decide⟩

/-- TRDY asserted, the transmitter free, and these queues. -/
def uplink (p : List PassFrame) (r : List ReplyFrame) (n : List NoticeFrame) (d : Option DataFrame)
    (ro : Readout) : State :=
  { reading ro with
    pins := ⟨true, true, 0⟩
    trunk := { Trunk.reset with pass := p, reply := r, notice := n, staged := d } }

theorem witness_ArbiterServesClassesInOrder :
    (∃ s : State, s.pins.rstn = true ∧ s.pins.trdy = false) ∧
      (∃ s : State, s.pins.rstn = true ∧ s.trunk.tx.isSome = true) ∧
      (uplink [⟨.a, []⟩] [] [] none Readout.reset).pins = ⟨true, true, 0⟩ ∧
      (uplink [⟨.a, []⟩] [] [] none Readout.reset).trunk.tx = none ∧
      (∃ f rest, (uplink [⟨.a, []⟩] [] [] none Readout.reset).trunk.pass = f :: rest) ∧
      (∃ f rest, (uplink [] [⟨0, 1, 7, .done, []⟩] [] none Readout.reset).trunk.reply = f :: rest) ∧
      (∃ f rest, (uplink [] [] [⟨0, .line, 1, []⟩] none Readout.reset).trunk.notice = f :: rest) ∧
      (∃ f, (uplink [] [] [] (some (.capture ⟨17, 0, false, false, false, 100, []⟩)) streaming).trunk.staged =
        some (.capture f)) ∧
      (uplink [] [] [] (some .readoutEnd) { streaming with record := none }).trunk.staged = some .readoutEnd ∧
      (∃ p r, (uplink [] [] [] (some .readoutEnd) streaming).readout.record = some p ∧
        (uplink [] [] [] (some .readoutEnd) streaming).record p = some r) ∧
      (uplink [] [] [] none Readout.reset).trunk.staged = none :=
  ⟨⟨State.reset, rfl, rfl⟩, ⟨{ State.reset with trunk := { Trunk.reset with tx := some [] } }, rfl, rfl⟩, rfl, rfl,
    ⟨_, _, rfl⟩, ⟨_, _, rfl⟩, ⟨_, _, rfl⟩, ⟨_, rfl⟩, rfl, ⟨_, _, rfl, rfl⟩, rfl⟩

theorem witness_NoticesAndFlags :
    (noticing 15 false).ctrl.settings.mask.get (Notice.eventRecycled 1).cls = false ∧
      (noticing 15 true).ctrl.settings.mask.get (Notice.eventRecycled 1).cls = true ∧
      (noticing 15 true).trunk.notice.length < 16 ∧ 16 ≤ (noticing 16 true).trunk.notice.length ∧
      (noticing 15 false).ctrl.settings.mask.fault = false ∧ (noticing 15 true).ctrl.settings.mask.fault = true ∧
      (noticing 15 true).ctrl.flags.get .passDrop = false ∧ (Flags.clear.raise .passDrop).get .passDrop = true ∧
      (noticing 15 true).ctrl.lostFaults = [] ∧
      (∀ s ∈ [lostOn 15 false, lostOn 15 true, lostOn 16 true], s.ctrl.lostFaults = [2]) ∧
      (lostOn 15 false).ctrl.settings.mask.fault = false ∧ (lostOn 15 true).ctrl.settings.mask.fault = true ∧
      (lostOn 15 true).trunk.notice.length < 16 ∧ 16 ≤ (lostOn 16 true).trunk.notice.length ∧
      (Notice.eventRecycled 1).cls ≠ .fault ∧ (lostOn 14 true).lostFaultsArrive.trunk.notice.length < 16 ∧
      16 ≤ (lostOn 15 true).lostFaultsArrive.trunk.notice.length := by
  decide

/-- A command waits behind four replies. -/
def replying (c : Command) : State :=
  { State.reset with trunk := { Trunk.reset with
    control := [c], reply := List.replicate 4 ⟨0, 1, 7, .done, []⟩ } }

theorem witness_CommandsJudgedFirst :
    (∀ c ∈ [cmd 0 [], cmd 0x12 [], cmd 0x01 [5], cmd 0x03 [], cmd 0x11 [], cmd 0x11 [0], cmd 0x11 [3]],
      (holding c).canTake c) ∧
      (0x11 < (cmd 0x12 []).code.toNat) ∧ (cmd 0x01 [5]).params.length ≠ 0 ∧ (cmd 0x11 []).params.length ≠ 1 ∧
      4 ≤ (replying (cmd 0x01 [])).trunk.reply.length :=
  ⟨fun c _ => holding_canTake c, by decide, by decide, by decide, by decide⟩

/-- The state `recording` with a command in the control receive buffer. -/
def recordingWith (r : Record) (c : Command) : State :=
  { recording r with trunk := { Trunk.reset with control := [c] } }

theorem recordingWith_canTake (r : Record) (c : Command) : (recordingWith r c).canTake c :=
  ⟨rfl, rfl, Nat.zero_lt_succ 3⟩

/-- A READY record whose entry is whole. -/
def readyRecord : Record := recordOf .ready (some (window (ending stationEntry)))

theorem recordingWith_numbersOk (c : Command) : (recordingWith readyRecord c).numbersOk :=
  recording_numbersOk readyRecord (by decide) (by decide)

theorem witness_ReportsAndSettings :
    (∀ c ∈ [cmd 0x01 [], cmd 0x02 [], cmd 0x05 [], cmd 0x04 [1, 1, 31, 0, 20, 8], cmd 0x04 [2, 0, 0xFF, 2, 0, 65],
        cmd 0x0C [], cmd 0x0D [0, 17], cmd 0x0D [0, 18]],
      (recordingWith readyRecord c).canTake c ∧ (recordingWith readyRecord c).numbersOk ∧
        (recordingWith readyRecord c).ordersOk) ∧
      (recordingWith readyRecord (cmd 0x0D [0, 17])).record 0 = some readyRecord ∧
      readyRecord.number = at16 [0, 17] 0 ∧ readyRecord.number ≠ at16 [0, 18] 0 :=
  ⟨fun c _ => ⟨recordingWith_canTake _ c, recordingWith_numbersOk c,
    recording_ordersOk readyRecord (by decide)⟩, rfl, by decide, by decide⟩

theorem witness_StationRangeCommands :
    (∀ code ∈ [(0x03 : Byte), 0x0B], ∀ first last, (holding (cmd code [first, last])).canTake (cmd code [first, last])) ∧
      (¬ ((1 : Byte).toNat ≤ (0 : Byte).toNat ∧ (0 : Byte).toNat ≤ 63)) ∧
      (¬ ((0 : Byte).toNat ≤ (64 : Byte).toNat ∧ (64 : Byte).toNat ≤ 63)) ∧
      (0 : Byte).toNat ≤ (63 : Byte).toNat ∧ (63 : Byte).toNat ≤ 63 :=
  ⟨fun _ _ _ _ => holding_canTake _, by decide, by decide, by decide, by decide⟩

/-- A command waits while a switch is scheduled. -/
def scheduledWith (c : Command) : State :=
  { holding c with ctrl := { Controller.reset with scheduled := some .immediate } }

theorem witness_TablesLoadedAndRead :
    (∀ c, (holding c).canTake c ∧ (scheduledWith c).canTake c) ∧
      (cmd 0x06 [1, 0]).params.length < 3 ∧ readTableId (at8 [5, 0, 1] 0) = none ∧
      readTableId (at8 [1, 63, 1] 0) = some .stations ∧
      (1 ≤ at8 [1, 63, 1] 2 ∧ at8 [1, 63, 1] 1 + at8 [1, 63, 1] 2 ≤ TableId.stations.entries) ∧
      ¬ at8 [1, 63, 2] 1 + at8 [1, 63, 2] 2 ≤ TableId.stations.entries ∧
      ([1, 63, 1, 1, 0x12, 0x30, 0x01] : List Byte).length = 3 + 1 * TableId.stations.entrySize ∧
      ([1, 63, 1, 1, 0x12, 0x30] : List Byte).length ≠ 3 + 1 * TableId.stations.entrySize ∧
      (scheduledWith (cmd 0x08 [])).ctrl.scheduled.isSome = true ∧ (holding (cmd 0x08 [])).ctrl.scheduled = none ∧
      TableId.neighbours.rangeOk 32 32 = true ∧ TableId.neighbours.rangeOk 0 33 = false ∧
      readTableId (0 : Byte).toNat = none := by
  refine ⟨fun c => ⟨holding_canTake c, rfl, rfl, Nat.zero_lt_succ 3⟩, ?_⟩
  decide

theorem witness_TableEntriesRoundTrip :
    63 < TableId.stations.entries ∧ 7 < TableId.sets.entries ∧ 63 < TableId.neighbours.entries ∧
      0 < TableId.params.entries := by decide

/-- Two blocks have switched, and the last one's report is on its way behind a cancelled one of its block. -/
def switched (cancelled : Bool) (marks : SwitchedMarks) : State :=
  { State.reset with
    bank := { DetectorBank.reset with lines :=
      ⟨{ BankLine.reset with inUse := .shadow }, { BankLine.reset with inUse := .shadow }⟩ }
    assoc := { Associator.reset with inUse := .shadow }
    ctrl := { Controller.reset with
      scheduled := some .immediate, marks := marks
      reports := [⟨.lineB, true⟩, ⟨.associator, cancelled⟩, ⟨.lineA, false⟩] } }

theorem witness_BankSwitchScheduledAndCompleted :
    (∀ c, (holding c).canTake c ∧ (scheduledWith c).canTake c) ∧
      (cmd 0x09 [0, 0, 0, 0x4E, 0x20]).params.length = 5 ∧ 1 < at8 [2, 0, 0, 0, 0] 0 ∧ at8 [1, 0, 0, 0, 0] 0 ≤ 1 ∧
      (∀ b, (scheduledWith (cmd 0x0A [])).ctrl.marks.get b = false ∧
        (scheduledWith (cmd 0x0A [])).bankInUse b = .active) ∧
      (∃ b, (switched false ⟨true, true, false⟩).bankInUse b = .shadow) ∧
      (switched false ⟨true, true, false⟩).ctrl.reports =
        [⟨.lineB, true⟩] ++ ⟨.associator, false⟩ :: [⟨.lineA, false⟩] ∧
      (∀ r ∈ [(⟨.lineB, true⟩ : SwitchReport)], r.block ≠ .associator) ∧
      (∀ o, o ≠ SwitchBlock.associator → (switched false ⟨true, true, false⟩).ctrl.marks.get o = true) ∧
      (switched false ⟨false, true, false⟩).ctrl.marks.get .lineA = false := by
  refine ⟨fun c => ⟨holding_canTake c, rfl, rfl, Nat.zero_lt_succ 3⟩, by decide, by decide, by decide, ?_,
    ⟨.associator, rfl⟩, rfl, ?_, ?_, rfl⟩
  · intro b
    cases b <;> exact ⟨rfl, rfl⟩
  · intro r h
    cases List.mem_singleton.mp h
    exact fun h => nomatch h
  · intro o h
    cases o
    · rfl
    · rfl
    · exact absurd rfl h

theorem witness_EventsFetchedAndReleased :
    (∀ c ∈ [cmd 0x0E [0, 17, 0xFF], cmd 0x0E [0, 17, 64], cmd 0x0E [0, 18, 0], cmd 0x0F [], cmd 0x10 [0, 17]],
      (recordingWith readyRecord c).canTake c ∧ (recordingWith readyRecord c).numbersOk) ∧
      readSelection 0xFF = some .all ∧ readSelection 63 = some (.one 63) ∧ readSelection 64 = none ∧
      readyRecord.state = .ready ∧ readyRecord.number = at16 [0, 17, 0xFF] 0 ∧
      readyRecord.entries.head? = some (ending stationEntry) ∧ readyRecord.entry 1 = none ∧
      (∀ x ∈ [RecordState.active, .filling, .reading], (recordOf x none).number = 17) ∧
      (reading streaming).readout.streaming = true :=
  ⟨fun c _ => ⟨recordingWith_canTake _ c, recordingWith_numbersOk c⟩, rfl, rfl, rfl, rfl, rfl, rfl, rfl,
    by decide, rfl⟩

/-! ## Worked examples of the manual -/

/-- WellFormed refuses an operand that names nothing, and exec refuses the command. -/
theorem test_wellFormed_refuses :
    stationOk 64 = false ∧ placeOk 32 = false ∧ strapsOk 32 = false ∧ stationOk 63 = true ∧ placeOk 31 = true ∧
      strapsOk 31 = true ∧ exec (.warmupEnd 64) State.reset = .refused .illFormed ∧
      exec (.debounceComplete 64) State.reset = .refused .illFormed ∧
      exec (.onMaxDuration 64) State.reset = .refused .illFormed ∧
      exec (.holdEnd 64) State.reset = .refused .illFormed ∧
      exec (.bulkCopyRead 0 64) State.reset = .refused .illFormed ∧
      exec (.bulkCopyRead 32 0) State.reset = .refused .illFormed ∧
      exec (.rstnReleased 32) State.reset = .refused .illFormed :=
  ⟨rfl, rfl, rfl, rfl, rfl, rfl, rfl, rfl, rfl, rfl, rfl, rfl, rfl⟩

/-- R164: the CRC of the nine bytes 0x31 to 0x39 is 0x29B1. -/
theorem test_crc_of_nine_bytes : crc [0x31, 0x32, 0x33, 0x34, 0x35, 0x36, 0x37, 0x38, 0x39] = 0x29B1 := by
  decide +kernel

/-- Table 2.2: rows 2, 3 and 4, in the layout of Table 11.7. -/
theorem test_stationEntry_clamping :
    (readStationEntry [1, 0x23, 0x00, 0x01]).value = ⟨true, .z, .h2, .off, .vertical, 0, 1⟩ ∧
      (readStationEntry [1, 0x23, 0x00, 0x01]).clamps = 1 ∧
      (readStationEntry [1, 0x00, 0x01, 0x90]).value = ⟨true, .z, .off, .off, .vector, 7, 1⟩ ∧
      (readStationEntry [1, 0x00, 0x01, 0x90]).clamps = 3 ∧
      (readStationEntry [0, 0x92, 0x30, 0x15]).value = ⟨false, .z, .h1, .h2, .vertical, 1, 3⟩ ∧
      (readStationEntry [0, 0x92, 0x30, 0x15]).clamps = 3 := by decide

/-- Table 3.2: the fourth row (k, D, M, H and F at their defaults 65208, 4, 8000, 200 and 16). -/
theorem test_detectorSet_clamping :
    (readDetectorSet [0xFE, 0xB8, 20, 1, 5, 0, 10, 0, 20, 4, 0x1F, 0x40, 0, 200, 0, 16, 0, 0]).value =
      { DetectorSet.default with g := 16, s := 2, l := 6, rOn := 16, rOff := 16 } ∧
      (readDetectorSet [0xFE, 0xB8, 20, 1, 5, 0, 10, 0, 20, 4, 0x1F, 0x40, 0, 200, 0, 16, 0, 0]).clamps = 5 := by
  decide

/-- Table 6.1: the third and the last row, of owner station 5. -/
theorem test_neighbourList_clamping :
    (readNeighbourList 5 [4, 5, 0, 80, 70, 0, 90, 6, 0, 150, 6, 0, 200]).value = [⟨6, 150⟩] ∧
      (readNeighbourList 5 [4, 5, 0, 80, 70, 0, 90, 6, 0, 150, 6, 0, 200]).clamps = 3 ∧
      (readNeighbourList 5 (18 :: (List.replicate 15 [7, 0, 100]).flatten)).value = [⟨7, 100⟩] ∧
      (readNeighbourList 5 (18 :: (List.replicate 15 [7, 0, 100]).flatten)).clamps = 15 := by decide +kernel

/-- Table 5.1. -/
theorem test_serial_order :
    precedes 10 20 = true ∧ precedes 4294967290 5 = true ∧ precedes 4294967290#32 5 = true ∧
      precedes 5 4294967290 = false ∧ serialDistance 5 4294967290 = 11 ∧ precedes 0 2147483648 = false ∧
      precedes 2147483648 0 = false ∧ serialDistance 0 2147483648 = 2147483648 ∧ atOrAfter 7000 7000 = true := by
  decide

/-- R3, R165: the slot of `oneSlot` is read as status 1 and the samples 1, −1 and 256. -/
theorem test_sample_slot :
    ((parseSample oneSlot).bind fun f => f.map[3]) = some ⟨1, ⟨1, -1, 256⟩⟩ ∧
      ((parseSample oneSlot).bind fun f => f.map[4]) = none := by decide

/-- The port of Table 1.5 before frame 1010. -/
def gapPort : LinePort := { LinePort.reset with state := .live, test := true, expected := some 1008 }

/-- Table 1.5: frame 1010, marker ACTIVE, against 1008 is handed on with fill 2; it arrives as bytes. -/
theorem test_lineFrame_gap :
    ∃ t, exec (.lineFrameReceived .a (0x00 :: envelope 0x21 ([0, 0, 3, 0xF2, 2, 1] ++ oneSlot.drop 6)))
      (withPort gapPort) = .next t ∧ t.ports.a.expected = some 1011 ∧ t.ports.a.state = .live ∧
      t.ports.a.buffer.map (fun e => (e.index, e.fill, e.test)) = [(1010, 2, true)] ∧ t.trunk.pass.length = 1 :=
  ⟨_, rfl, by decide +kernel⟩

/-- Table 1.3: frame 2008 against 2006 finds the buffer full: pending fill 3, LINE_OVERRUN reported. -/
theorem test_lineFrame_overrun :
    let s := (withPort { LinePort.reset with
        state := .live, expected := some 2006
        buffer := [entry 2001 0, entry 2002 0, entry 2003 0, entry 2005 1] }).acceptSample .a (frame 2008 0)
    s.ports.a.expected = some 2009 ∧ s.ports.a.overrunFill = 3 ∧ s.ports.a.buffer.length = 4 ∧
      s.ctrl.flags.lineOverrun = true := by decide

/-- Table 1.4: the last row, frame 1030 against 1012, and R7: silence in LIVE takes the line down. -/
theorem test_line_leaves :
    ((withPort { gapPort with expected := some 1012, buffer := [entry 1011 0] }).acceptSample .a
      (frame 1030 0)).ports.a = { gapPort with
        state := .sync, expected := some 1031, run := 1, silence := some 20 } ∧
      ∃ t, exec (.silenceTimerExpiry .a) (withPort { gapPort with silence := some 20, buffer := [entry 1011 0] }) =
        .next t ∧ t.ports.a.state = .down ∧ t.ports.a.buffer = [] ∧ (t.bankLine .a).leaves = 1 ∧
        t.trunk.notice.map (·.typ) = [5] :=
  ⟨by decide, _, rfl, by decide⟩

/-- Table 2.4: instants 104, 105 and 108 of station 5. -/
theorem test_status_confirmation :
    (confirmCode 1 { StationState.reset with confirmed := some 0, candidate := some 1 }) =
        { StationState.reset with confirmed := some 1, unread := [1] } ∧
      (confirmCode 0 { StationState.reset with confirmed := some 1, unread := [1] }) =
        { StationState.reset with confirmed := some 1, candidate := some 0, unread := [1] } ∧
      (confirmCode 2 { StationState.reset with confirmed := some 1, candidate := some 2, unread := [1] }) =
        { StationState.reset with confirmed := some 2, unread := [1, 2] } ∧ readStatusCode 35 = 15 := by decide

/-- Line B offers the filled instant 8999 of Table 2.5; station 40 holds 1200, −340, 75. -/
def gapRing : State :=
  { State.reset with
    ports := ⟨LinePort.reset, { LinePort.reset with state := .live, buffer := [{ entry 9001 2 with line := .b }] }⟩
    bank := { DetectorBank.reset with
      stations := DetectorBank.reset.stations.set 40 { StationState.reset with held := ⟨1200, -340, 75⟩ }
      lines := ⟨BankLine.reset, { BankLine.reset with live := true }⟩ } }

/-- Table 2.5: filled instant 8999 goes to slot 807 with the held sample; the entry stays for 9000. -/
theorem test_filled_instant :
    (gapRing.chosen).map (fun n => (n.line, n.index, n.map.isSome)) = some (.b, 8999, false) ∧
      (gapRing.mem.writeRing 40 8999 ⟨some 8999, (writtenPlace none (gapRing.station 40)).filled,
        (writtenPlace none (gapRing.station 40)).samples⟩).rings =
          [(40 * 4096 + 807, ⟨some 8999, true, ⟨1200, -340, 75⟩⟩)] ∧
      (afterTake (gapRing.port .b).buffer).map (·.taken) = [1] := by decide +kernel

/-- Table 4.8: choices 1 to 4. -/
theorem test_choice_between_lines :
    let s := fun (n : Nat) (b : List InputEntry) => ({ State.reset with
      ports := ⟨{ LinePort.reset with buffer := [{ entry 7001 2 with taken := n }] },
        { LinePort.reset with buffer := b }⟩ } : State)
    let of := fun (x : Option Instant) => x.map fun n => (n.line, n.index, n.map.isSome)
    of (s 0 [entry 7000 0]).chosen = some (.a, 6999, false) ∧ of (s 1 [entry 7000 0]).chosen = some (.a, 7000, false) ∧
      of (s 2 [entry 7000 0]).chosen = some (.b, 7000, true) ∧ of (s 2 []).chosen = some (.a, 7001, true) := by decide

/-- A VERTICAL station at an instant with x, in this detector state. -/
def caseOf (det : DetState) (xPrev hPrev : Int) (sta lta : Nat) (x : Sample) : StationState :=
  { StationState.reset with det := det, hp1 := ⟨xPrev, hPrev⟩, sta := sta, lta := lta, held := ⟨x, 0, 0⟩ }

/-- Table 3.3: an instant in ARMED below the on ratio. -/
theorem test_arithmetic_armed :
    (detectorWork (input 4 8000 200) (caseOf .armed 1000 200 50000 40000 1300)).after =
        caseOf .armed 1300 498 62363 40202 1300 ∧ ratio 62363 (effectiveLta 40000 16) = 24 := by decide

/-- Tables 3.4 and 3.5: the on test met, and an instant in PENDING. -/
theorem test_arithmetic_onset :
    (detectorWork (input 4 8000 200) (caseOf .armed 1300 498 62363 40202 4800)).after =
        { caseOf .pending 4800 3995 1055953 40202 4800 with
          debounce := 4, detection := some ⟨50, 420, false, false⟩ } ∧
      (detectorWork (input 4 8000 200) { caseOf .pending 4800 3995 1055953 40202 2000 with
          debounce := 4, detection := some ⟨49, 420, false, false⟩ }).after =
        { caseOf .pending 2000 1175 1076243 40202 2000 with
          debounce := 3, detection := some ⟨49, 428, false, false⟩ } := by decide

/-- Table 3.6: warm-up instants 1, 2, 3 and 4. -/
theorem test_arithmetic_warmup :
    let run := fun (n : Nat) (x h : Int) (avg : Nat) (smp : Sample) =>
      (detectorWork (input 4 8000 200) { caseOf .warmup x h avg avg smp with warm := n }).after
    run 0 77 88 99 500 = { caseOf .warmup 500 0 0 0 500 with warm := 1 } ∧
      run 1 500 0 0 900 = { caseOf .warmup 900 400 80000 80000 900 with warm := 2 } ∧
      run 2 900 400 80000 700 = { caseOf .warmup 700 197 59328 59328 700 with warm := 3 } ∧
      run 3 700 197 59328 650 = { caseOf .warmup 650 146 49808 49808 650 with warm := 4 } := by decide

/-- Table 4.7: instant 503, the pick of onset 501 and peak 90 with both marks. An STA of 21,760 over an LTA of
4096 is r = 85. -/
theorem test_debounce_makes_the_pick :
    let x := { StationState.reset with
      det := .pending, confirmed := some 1, debounce := 1, sta := 21760
      detection := some ⟨501, 90, false, true⟩ }
    transitionStep (input 2 5 3) x =
      ⟨{ x with det := .on, debounce := 0, detection := none }, .debounceComplete,
        some ⟨0, 501, 90, 0, true, true⟩⟩ := by decide

/-- Table 4.7: instants 508 (maximum duration, LTA set to STA), 509 and 511 (hold). -/
theorem test_on_and_hold :
    let x := { StationState.reset with sta := 21760 }
    transitionStep (input 2 5 3) { x with det := .on, onCount := 4 } =
        ⟨{ x with det := .hold, onCount := 5, hold := 3 }, .maxDuration, none⟩ ∧
      (ltaStep .maxDuration 9 10 x).lta = 21760 ∧
      transitionStep (input 2 5 3) { x with det := .hold, hold := 3 } =
        ⟨{ x with det := .hold, hold := 2 }, .holding, none⟩ ∧
      transitionStep (input 2 5 3) { x with det := .hold, hold := 1 } =
        ⟨{ x with det := .armed, hold := 0 }, .holdEnd, none⟩ := by decide

/-- R49, R51 to R53: what the instant of a row that names a transition makes of its station. -/
theorem test_transition_rows :
    (((offering warming).flowOf offered 0).after.det, ((offering warming).flowOf offered 0).after.warm) =
        (.armed, 1024) ∧
      ((offering pendingOne).flowOf offered 0).after.det = .on ∧
      (((offering pendingOne).flowOf offered 0).pick).map (fun p => (p.onset, p.filled)) = some (90, true) ∧
      (((offering onLong).flowOf offered 0).after.det, ((offering onLong).flowOf offered 0).after.hold) =
        (.hold, 200) ∧
      ((offering holdOne).flowOf offered 0).after.det = .armed := by decide +kernel

/-- R25, R47, R57: a station at a line-leave becomes UNKNOWN, and SUSPENDED unless it is OFF. -/
theorem test_lineLeave :
    ({ pendingOne with confirmed := some 0, candidate := some 1, unread := [0] } : StationState).lineLeft =
        { pendingOne with det := .suspended, detection := none, unread := [0] } ∧
      ({ StationState.reset with confirmed := some 1 } : StationState).lineLeft = StationState.reset := by decide

/-- Table 5.3: PICK 3 admitted at 253, PICK 4 and 12 refused, the mark appended at 255. -/
theorem test_pick_admission :
    let s := (associating (List.replicate 252 (.pick (pickOf 1 1)) ++ [markAt 9 false]) none).postPicks
      [pickOf 3 10, pickOf 4 10, pickOf 12 10]
    s.pickQueue.length = 254 ∧ s.ctrl.flags.pickOverflow = true ∧
      (s.postMark ⟨.a, true, some 10, false⟩).pickQueue.length = 255 := by decide +kernel

/-- Table 5.4: steps 6, 9 and 11. -/
theorem test_mark_coalescing :
    let mb := fun (live : Bool) (i : Index) (r : Bool) => QueueEntry.mark ⟨.b, live, some i, r⟩
    let q := fun (m : QueueEntry) => [markAt 5002 false, m, .pick (pickOf 7 5003), markAt 5003 false]
    placeMark (q (mb true 4991 false)) ⟨.b, true, some 4992, false⟩ = q (mb true 4992 false) ∧
      placeMark (q (mb true 4992 false)) ⟨.b, false, some 4992, true⟩ = q (mb false 4992 true) ∧
      placeMark (q (mb false 4992 true)) ⟨.b, true, some 4900, false⟩ = q (mb true 4900 true) := by decide

/-- Table 5.4: step 12, a returning line does not hold the watermark back: W goes from 4990 to 5002. -/
theorem test_watermark_after_resync :
    ∃ t, exec .associatorTakeLineMark { State.reset with
        pickQueue := [.mark ⟨.b, true, some 4900, true⟩]
        assoc := { Associator.reset with
          view := ⟨⟨true, some 5002⟩, ⟨true, some 4990⟩⟩, watermark := some 4990 } } = .next t ∧
      t.assoc.watermark = some 5002 ∧ t.assoc.view = ⟨⟨true, some 5002⟩, ⟨true, some 4900⟩⟩ :=
  ⟨_, rfl, by decide⟩

/-- The parameters of Table 6.5 with the extension limit 2 and the span limit 400. -/
def extParams : AssocParams := { AssocParams.default with quorum := 2, slack := 40, extLength := 200, span := 400 }

/-- Table 6.5: the rows of stations 22, 23 and 24. -/
theorem test_extensions :
    let c := { candidateOf .declared 0 50240 2 with t0 := 50000 }
    c.extend extParams = { c with deadline := 50400, extensions := 1 } ∧
      (c.extend extParams).extend extParams = { c with deadline := 50400, extensions := 2 } ∧
      ((c.extend extParams).extend extParams).extend extParams = { c with deadline := 50400, extensions := 2 } := by
  decide

/-- Section 6.4.2: both candidates admit the pick of station 11, and the one of order 41 in slot 3 takes it over
the one of order 44 in slot 1. -/
theorem test_lower_open_order_joins :
    let bank := { Bank.default with
      stations := Bank.default.stations.set 11 { StationEntryCfg.default with enable := true }
      neighbours := (Bank.default.neighbours.set 10 [⟨11, 100⟩]).set 12 [⟨11, 80⟩] }
    let p := { candidateOf .opened 41 80140 6 with anchor := 10, t0 := 80000, picks := [pickOf 10 80000] }
    let q := { candidateOf .opened 44 80170 6 with anchor := 12, t0 := 80050, picks := [pickOf 12 80050] }
    ∃ t, exec .associatorTakePick { State.reset with
        pickQueue := [.pick (pickOf 11 80060)]
        assoc := { Associator.reset with slots := (Associator.reset.slots.set 3 (some p)).set 1 (some q) }
        ctrl := { Controller.reset with active := bank } } = .next t ∧
      t.candidate 3 = some { p with weight := 2, picks := [pickOf 10 80000, pickOf 11 80060] } ∧
      t.candidate 1 = some q :=
  ⟨_, rfl, by decide +kernel⟩

/-- The window of record 17 in section 7.10. -/
def window17 (es : List StationEntry) : CaptureSection := ⟨59600, 61600, es⟩

/-- Tables 7.5 and 7.6: blocks for each station, and the split of each line's window. -/
theorem test_window_split :
    (window17 []).size = 2001 ∧ (window17 []).blocksPerStation = 8 ∧ (window17 []).bulkLength (some 60140) = 541 ∧
      (window17 []).bulkLength (some 60110) = 511 := by decide

/-- Table 7.7: at the line's leave station 40's run is 901 instants, and blocks 52 to 55 return. -/
theorem test_lineLost_returns_blocks :
    let e : StationEntry := { stationEntry with
      station := 40, boundary := some 60110, chain := (List.range' 48 8).map some, bulkFirst := some 59600
      bulkCount := 511, directCount := 390, bulkDone := true, bulkRead := 511 }
    let ch := (window17 [e]).changeEntry 40 lineLostStep [e]
    ch.returned = [52, 53, 54, 55] ∧ ch.completed = true ∧
      ch.entries.map (fun x => (x.lineLost, x.copied, (chainBlocks x.chain).length)) = [(true, 901, 4)] := by decide

/-- Section 7.10: a DECLARE takes place 0, number 1, with 16 blocks for its two stations. -/
theorem test_declare_reserves :
    ∃ t, exec .declareMessageTaken (planning 20) = .next t ∧
      (t.record 0).map (fun r => (r.number, r.state, r.entries.map (·.chain.length))) = some (1, .active, [8, 8]) ∧
      t.capture.freeList = [16, 17, 18, 19] ∧ t.capture.map[2] = .record 0 ∧ t.capture.nextNumber = 2 :=
  ⟨_, rfl, by decide +kernel⟩

/-- R103, R106, R121: at a full table under RECYCLE the oldest READY record, number 1, is freed and announced, and
the new record takes its place, number 33 and declaration order 31. -/
theorem test_declare_recycles :
    ∃ t, exec .declareMessageTaken (fullTable (declareMsg false)) = .next t ∧
      (t.record 0).map (fun r => (r.number, r.order, r.state)) = some (33, 31, .active) ∧
      (t.record 1).map (fun r => (r.number, r.order)) = some (2, 0) ∧ t.capture.nextNumber = 34 ∧
      t.trunk.notice.map (fun n => (n.typ, n.body.take 2)) = [(4, [0, 1]), (1, [0, 33])] :=
  ⟨_, rfl, by decide +kernel⟩

/-- Table 7.7: a CLOSE while an entry is incomplete leaves the record FILLING. -/
theorem test_close_fills :
    let s := recording (recordOf .active (some (window stationEntry)))
    ∃ t, exec .closeMessageTaken { s with
        channel := [.close closeMsg]
        capture := { s.capture with map := CaptureEngine.reset.map.set 2 (.record 0) } } = .next t ∧
      (t.record 0).map (fun r => (r.state, r.earliest, r.picks.length)) = some (.filling, 990, 2) ∧
      t.capture.map[2] = .empty :=
  ⟨_, rfl, by decide +kernel⟩

/-- Table 7.8: the reads of 65,926, which finds tag 70,022, and of 65,927. -/
theorem test_bulk_copy_clamps :
    let e := { stationEntry with directCount := 2 }
    (bulkStep 65926 4116 none { e with bulkRead := 21 }) = { e with startClamped := true, bulkRead := 22 } ∧
      (bulkStep 65927 4116 (some false) { e with startClamped := true, bulkRead := 22 }) =
        { e with startClamped := true, bulkFirst := some 65927, bulkCount := 1, bulkRead := 23 } := by decide

/-- R114: the read of a slot whose tag differs clamps the start. -/
theorem test_bulkCopyRead :
    ∃ t, exec (.bulkCopyRead 0 0) (copying stationEntry) = .next t ∧
      (t.record 0).map (fun r => r.entries.map fun e => (e.bulkRead, e.startClamped)) = some [(1, true)] :=
  ⟨_, rfl, by decide +kernel⟩

/-- Section 8.5.1: the readout of 2001 instants begins with a frame of 64 and moves to 59,664; at 17 it ends. -/
theorem test_readout_advance :
    let r := { streaming with nextIndex := 59600, remaining := 2001, selection := .one 0 }
    r.advance (window17 []) 0 = { r with nextIndex := 59664, remaining := 1937 } ∧
      ({ r with nextIndex := 61584, remaining := 17 } : Readout).advance (window17 []) 0 =
        { r with current := none, nextIndex := 61601, remaining := 0 } := by decide

/-- Table 8.1: CANCEL READOUT withdraws the staged frame and stages the READOUT END. -/
theorem test_cancelReadout :
    ∃ t, exec .cancelReadout { reading streaming with trunk := { Trunk.reset with
        control := [cmd 0x0F []], staged := some (.capture ⟨17, 0, false, false, false, 100, []⟩) } } = .next t ∧
      t.trunk.staged = some .readoutEnd ∧ t.readout.cancel = true ∧ t.readout.current = none ∧
      t.trunk.reply.map (·.completion) = [.done] :=
  ⟨_, rfl, by decide⟩

/-- R128, Table 11.3: a staged frame, and the arbiter's CAPTURE DATA frame of kind 0x64. -/
theorem test_stage_and_send :
    (∃ t, exec .stageDataFrame (reading streaming) = .next t ∧
      t.trunk.staged = some (.capture ⟨17, 0, false, false, false, 100, [⟨false, ⟨0, 0, 0⟩⟩]⟩)) ∧
      ∃ t, exec .arbiterChoice (uplink [] [] [⟨0, .line, 1, []⟩] (some .readoutEnd) streaming) = .next t ∧
        t.trunk.staged = some .readoutEnd ∧ t.trunk.tx.map (·.take 8) = some [0xC3, 0x3C, 0x63, 0, 3, 0, 3, 1] :=
  ⟨⟨_, rfl, by decide +kernel⟩, ⟨_, rfl, by decide +kernel⟩⟩

/-- An entry whose bulk copy is done, in a FILLING record, with block 1 free. -/
def filling (e : StationEntry) : State :=
  { copying { e with bulkDone := true } with
    capture := { (copying { e with bulkDone := true }).capture with freeList := [1] } }

/-- R116, R118, R120: the direct write of the window's end completes the entry, and the record becomes READY with
an EVENT READY notice; a write before the end does not. -/
theorem test_last_direct_write_completes :
    (((filling stationEntry).directWriteAt ⟨.a, 120, false, none⟩ 0 BlockPlace.reset 0).record 0).map Record.state =
        some .ready ∧
      ((filling stationEntry).directWriteAt ⟨.a, 120, false, none⟩ 0 BlockPlace.reset 0).trunk.notice.map
        NoticeFrame.body = [[0, 17, 1, 1, 0, 0, 0]] ∧
      (((filling stationEntry).directWriteAt ⟨.a, 119, false, none⟩ 0 BlockPlace.reset 0).record 0).map
        Record.state = some .filling := by
  decide +kernel

/-- R117, R118, R120: a line-leave ends the entry with LINE_LOST; with nothing copied its block returns, and the
record becomes READY. -/
theorem test_line_leave_completes :
    (((filling stationEntry).loseStation 0).record 0).map Record.state = some .ready ∧
      ((filling stationEntry).loseStation 0).capture.freeList = [1, 0] ∧
      ((filling stationEntry).loseStation 0).trunk.notice.map NoticeFrame.body = [[0, 17, 1, 1, 0, 1, 0]] := by
  decide +kernel

/-- R143: the FAULT request of NOTICE_LOST that is on its way is judged before the one of a later PASS_DROP, and
takes the last place where there is only one. -/
theorem test_requests_keep_their_order :
    (((lostOn 14 true).report .passDrop 0).trunk.notice.drop 14).map NoticeFrame.body = [[4, 2], [5, 0]] ∧
      (((lostOn 15 true).report .passDrop 0).trunk.notice.drop 15).map NoticeFrame.body = [[4, 2]] ∧
      ((lostOn 15 true).report .passDrop 0).ctrl.flags.noticeLost = true := by decide

/-- R125, R166: READ EVENT of a READY record with two picks and one entry gives 26 + 2 × 9 + 11 bytes. -/
theorem test_read_event_bytes :
    ∃ t, exec .readEvent (recordingWith readyRecord (cmd 0x0D [0, 17])) = .next t ∧
      t.trunk.reply.map ReplyFrame.results =
        [[0, 17, 3, 0, 0, 0, 0, 110, 0, 0, 0, 105, 0, 0, 0, 1, 0, 0, 0, 100, 0, 0, 0, 120, 1, 2] ++
          [0, 0, 0, 0, 110, 0, 100, 0, 0] ++ [1, 0, 0, 0, 105, 0, 100, 0, 0] ++
          [0, 0, 0, 0, 111, 0, 3, 0, 0, 24, 1]] := ⟨_, rfl, by decide +kernel⟩

/-- Table 9.3: the STATION notice of station 3 finds 16 frames: NOTICE_LOST rises, and its FAULT, which finds the
queue still full, is dropped. -/
theorem test_notice_lost :
    let s := (noticing 16 true).request (.statusChange 3 0 none 3002)
    s.trunk.notice.length = 16 ∧ s.ctrl.flags.noticeLost = true ∧ s.ctrl.lostFaults = [2] ∧
      s.lostFaultArrives.trunk.notice.length = 16 ∧ s.lostFaultArrives.ctrl.lostFaults = [] := by decide

/-- R145: with a frame taken in between, the FAULT notice of NOTICE_LOST (flag 4) with class STATION is queued. -/
theorem test_notice_lost_after_take :
    ∃ t, exec .arbiterChoice { (noticing 16 true).request (.statusChange 3 0 none 3002) with
        pins := ⟨true, true, 0⟩ } = .next t ∧ t.trunk.notice.length = 15 ∧
      step t = .next t.lostFaultArrives ∧ t.lostFaultArrives.trunk.notice.getLast? = some ⟨0, .fault, 1, [4, 2]⟩ :=
  ⟨_, rfl, by decide, rfl, by decide⟩

/-- R137: the group address is taken, and another unit's command ignored. -/
theorem test_downlink_addresses :
    (State.reset.unitCommand [31, 1, 7]).trunk.control = [⟨31, 1, 7, []⟩] ∧
      (State.reset.unitCommand [5, 1, 7]).trunk.control = [] ∧
      (State.reset.fieldCommand [3, 0x22, 9]).ports.b.fieldQueue = [⟨0x22, [9]⟩] := by decide

/-- R163: IDENTIFY reports 0x6420, revision 1, unit 0, ring length 4096, 1024 blocks, 64 stations. -/
theorem test_identify :
    ∃ t, exec .identify (holding (cmd 0x01 [])) = .next t ∧ t.trunk.control = [] ∧
      t.trunk.reply = [⟨0, 1, 7, .done, [0x64, 0x20, 1, 0, 0x10, 0, 4, 0, 64]⟩] :=
  ⟨_, rfl, by decide⟩

/-- R146, R166: READ STATUS reports bit 8 for LINE_OVERRUN and bit 5 for PASS_DROP, and clears them. -/
theorem test_readStatus :
    ∃ t, exec .readStatus { holding (cmd 0x02 []) with
        ctrl := { Controller.reset with flags := (Flags.clear.raise .lineOverrun).raise .passDrop } } = .next t ∧
      t.trunk.reply.map (·.results) = [[1, 0x20]] ∧ t.ctrl.flags = Flags.clear :=
  ⟨_, rfl, by decide⟩

/-- Table 2.4: READ STATION STATUS 5 to 5 reports CALIB and unread CLIPPED. -/
theorem test_readStationStatus :
    ∃ t, exec .readStationStatus { holding (cmd 0x03 [5, 5]) with bank := { DetectorBank.reset with
        stations := DetectorBank.reset.stations.set 5
          { StationState.reset with confirmed := some 2, unread := [1, 2] } } } = .next t ∧
      t.trunk.reply.map (·.results) = [[5, 2, 1]] ∧ (t.station 5).unread = [2] :=
  ⟨_, rfl, by decide +kernel⟩

/-- R151: gap 65 is stored as 64, silence 0 as 1, retention 2 as KEEP, and DONE_CLAMPED reports so. -/
theorem test_writeSettings :
    ∃ t, exec .writeSettings (holding (cmd 0x04 [0, 1, 0x1F, 2, 0, 65])) = .next t ∧
      t.ctrl.settings = { Settings.default with forwarding := ⟨false, true⟩, silence := 1, gap := 64 } ∧
      t.trunk.reply.map (fun r => (r.completion, r.results)) = [(.doneClamped, [0, 1, 0x1F, 0, 1, 64])] :=
  ⟨_, rfl, by decide⟩

/-- R155: the reported defaults of a detector set. -/
theorem test_readTable :
    ∃ t, exec .readTable (holding (cmd 0x07 [0, 2, 7, 1])) = .next t ∧ t.trunk.reply.map (·.results) =
      [[0, 2, 7, 1, 0xFE, 0xB8, 8, 4, 10, 0, 64, 0, 24, 4, 0x1F, 0x40, 0, 200, 0, 16, 0, 0]] :=
  ⟨_, rfl, by decide +kernel⟩

/-- Table 10.4: SWITCH BANK at 40,000 with Line A LIVE and Line B DOWN; Line B switches at the scheduling. -/
theorem test_switchBank :
    ∃ t, exec .switchBank { holding (cmd 0x09 [0, 0, 0, 0x9C, 0x40]) with bank := { DetectorBank.reset with
        lines := ⟨{ BankLine.reset with live := true, progress := some 39990 }, BankLine.reset⟩ } } = .next t ∧
      t.ctrl.scheduled = some (.atIndex 40000) ∧ t.bank.lines.a.inUse = .active ∧
      t.bank.lines.a.switch = some (.atIndex 40000) ∧ t.bank.lines.b.inUse = .shadow ∧
      t.ctrl.reports = [⟨.lineB, false⟩] :=
  ⟨_, rfl, by decide⟩

/-- Table 10.4: CANCEL SWITCH with marks set is WRONG_STATE; the associator's report completes the switch. -/
theorem test_switch_completion :
    (∃ t, exec .cancelSwitch { switched false ⟨true, true, false⟩ with
        trunk := { Trunk.reset with control := [cmd 0x0A []] } } = .next t ∧
      t.ctrl.scheduled = some .immediate ∧ t.trunk.reply.map (·.completion) = [.wrongState]) ∧
      ∃ t, exec (.switchedReport .associator) (switched false ⟨true, true, false⟩) = .next t ∧
        t.ctrl.generation = 1 ∧ t.ctrl.scheduled = none ∧ t.assoc.inUse = .active ∧
        t.trunk.notice = [⟨0, .config, 1, [0, 1]⟩] :=
  ⟨⟨_, rfl, by decide⟩, ⟨_, rfl, by decide⟩⟩

/-- R124, R133: LIST EVENTS of record 17, and its RELEASE, which returns its block at the tail. -/
theorem test_list_and_release :
    (∃ t, exec .listEvents (recordingWith readyRecord (cmd 0x0C [])) = .next t ∧
      t.trunk.reply.map (·.results) = [[1, 0, 17, byte RecordState.ready.code, 0, 0, 0, 0, 105, 2, 1, 1]]) ∧
      ∃ t, exec .release (recordingWith readyRecord (cmd 0x10 [0, 17])) = .next t ∧ t.record 0 = none ∧
        t.capture.freeList.getLast? = some 0 :=
  ⟨⟨_, rfl, by decide +kernel⟩, ⟨_, rfl, by decide +kernel⟩⟩

/-- R126, R127: FETCH of record 17, selection ALL. -/
theorem test_fetch :
    ∃ t, exec .fetch (recordingWith readyRecord (cmd 0x0E [0, 17, 0xFF])) = .next t ∧
      t.readout.streaming = true ∧ t.readout.current = some 0 ∧ t.readout.remaining = 3 ∧
      (t.record 0).map (·.state) = some .reading :=
  ⟨_, rfl, by decide +kernel⟩

/-- R137, R162: straps 31 latch the unit address 30. -/
theorem test_rstn_release :
    ∃ t, exec (.rstnReleased 31) { State.reset with pins := ⟨true, false, 0⟩ } = .next t ∧ t.unitAddress = 30 ∧
      t.pins = ⟨true, true, 31⟩ := ⟨_, rfl, rfl, rfl⟩

/-- R161: RESET ENGINE answers DONE and keeps its reply; a RESET of kind 3 is refused with NO_SUCH_TABLE. -/
theorem test_reset_commands :
    (∃ t, exec .resetEngine (holding (cmd 0x11 [1])) = .next t ∧ t.trunk.reply.map (·.completion) = [.done]) ∧
      ∃ t, exec .reset (holding (cmd 0x11 [3])) = .next t ∧ t.trunk.reply.map (·.completion) = [.noSuchTable] :=
  ⟨⟨_, rfl, by decide⟩, ⟨_, rfl, by decide⟩⟩

/-- Log 24: no row of the table gives bits, so no word spells a command. -/
theorem test_no_word_spells_a_command : decodeTableWord 16 0xFFFF = none ∧ State.reset.withFetchWord 16 1 = State.reset :=
  ⟨rfl, rfl⟩

end Sys2Proof.Tests
end

section
/-! PROOFS. The line ports before LIVE, the classes of a frame in LIVE, and the field commands (chapter 1). -/

namespace Sys2Proof.Machine

/-! ## Notice requests around a port update

The notice path and the line ports share no part of the state, so a request may be moved in front of the
port update that precedes it. -/

@[simp] theorem State.requestAll_nil (s : State) : s.requestAll [] = s := rfl

@[simp] theorem State.requestAll_cons (s : State) (n : Notice) (ns : List Notice) :
    s.requestAll (n :: ns) = (s.request n).requestAll ns := rfl

theorem State.noticeDropped_setPort (s : State) (l : Line) (p : LinePort) (n : Notice) :
    (s.setPort l p).noticeDropped n = s.noticeDropped n := rfl

theorem State.noticeLost_setPort (s : State) (l : Line) (p : LinePort) (cls : NoticeClass) :
    (s.setPort l p).noticeLost cls = (s.noticeLost cls).setPort l p := by
  rw [State.noticeLost, State.noticeLost, State.setPort_ctrl]
  split_ifs <;> rfl

theorem State.offerNotice_setPort (s : State) (l : Line) (p : LinePort) (n : Notice) :
    (s.setPort l p).offerNotice n = (s.offerNotice n).setPort l p := by
  rw [State.offerNotice, State.offerNotice, State.setPort_ctrl, State.setPort_trunk]
  split_ifs <;> rfl

theorem State.request_setPort (s : State) (l : Line) (p : LinePort) (n : Notice) :
    (s.setPort l p).request n = (s.request n).setPort l p := by
  rw [State.request, State.request, State.noticeDropped_setPort]
  split_ifs
  · exact s.noticeLost_setPort l p n.cls
  · exact s.offerNotice_setPort l p n

theorem State.lineNotice_setPort (s : State) (l : Line) (p : LinePort) (cause : LineCause) (i : Option Index) :
    (s.setPort l p).lineNotice l cause i = (s.request (.lineChange cause l p.state p.test i)).setPort l p := by
  rw [State.lineNotice, State.setPort_port_same, State.request_setPort]

/-! ## The parts of an accepted SAMPLE frame's treatment -/

/-- R13, R14: the requests that a marker makes of a port in a given line state: one when the TEST mark changes. -/
def markerNotices (l : Line) (state : LineState) (test : Bool) (f : SampleFrame) : List Notice :=
  if test = testAfter f.marker then []
  else [.lineChange (if testAfter f.marker then .testSet else .testCleared) l state (testAfter f.marker)
    (some f.index)]

theorem State.actMarker_setPort (s : State) (l : Line) (p : LinePort) (f : SampleFrame) :
    (s.setPort l p).actMarker l f =
      (s.requestAll (markerNotices l p.state p.test f)).setPort l { p with test := testAfter f.marker } := by
  by_cases same : p.test = testAfter f.marker
  · simp [State.actMarker, markerNotices, same]
  · simp [State.actMarker, markerNotices, same, State.lineNotice_setPort]

theorem State.bufferFrame_setPort_of_room (s : State) (l : Line) (p : LinePort) (f : SampleFrame) (fill : Nat)
    (room : p.buffer.length < 4) :
    (s.setPort l p).bufferFrame l f fill = s.setPort l
      { p with
        buffer := p.buffer ++ [⟨l, f.index, fill, p.test, f.map, 0⟩]
        overrunFill := 0 } := by
  simp [State.bufferFrame, Config.inputPlaces, room]

theorem State.startSync_setPort (s : State) (l : Line) (p : LinePort) (i : Index) :
    (s.setPort l p).startSync l i =
      s.setPort l { p with state := .sync, run := 1, backward := 0, expected := some (i + 1) } := by
  simp [State.startSync]

/-! ## An accepted SAMPLE frame before LIVE (R5, R6) -/

/-- The port once the frame has restarted its silence timer (R7). -/
def State.restartedPort (s : State) (l : Line) : LinePort :=
  { s.port l with silence := some s.ctrl.settings.silence }

theorem State.restartSilence_eq (s : State) (l : Line) : s.restartSilence l = s.setPort l (s.restartedPort l) := rfl

theorem State.acceptSample_down {s : State} {l : Line} (f : SampleFrame) (down : (s.port l).state = .down) :
    s.acceptSample l f = (s.setPort l (s.restartedPort l)).frameInDown l f := by
  simp only [State.acceptSample, down, State.restartSilence_eq]

theorem State.acceptSample_sync {s : State} {l : Line} (f : SampleFrame) (sync : (s.port l).state = .sync) :
    s.acceptSample l f = (s.setPort l (s.restartedPort l)).frameInSync l f := by
  simp only [State.acceptSample, sync, State.restartSilence_eq]

theorem State.frameInDown_setPort (s : State) (l : Line) (p : LinePort) (f : SampleFrame) :
    (s.setPort l p).frameInDown l f =
      (s.request (.lineChange .firstFrame l .sync p.test (some f.index))).setPort l
        { p with state := .sync, run := 1, backward := 0, expected := some (f.index + 1) } := by
  rw [State.frameInDown, State.startSync_setPort, State.lineNotice_setPort]

/-- R6: a frame that is not contiguous starts its run afresh. -/
theorem State.frameInSync_of_ne {p : LinePort} {f : SampleFrame} (s : State) (l : Line)
    (sync : p.state = .sync) (other : p.expected ≠ some f.index) :
    (s.setPort l p).frameInSync l f =
      s.setPort l { p with run := 1, backward := 0, expected := some (f.index + 1) } := by
  simp [State.frameInSync, other, State.startSync_setPort, sync]

/-- R6: a contiguous frame that does not complete the run lengthens it. -/
theorem State.frameInSync_of_short {p : LinePort} {f : SampleFrame} (s : State) (l : Line)
    (contiguous : p.expected = some f.index) (short : p.run < 3) :
    (s.setPort l p).frameInSync l f =
      s.setPort l { p with run := p.run + 1, expected := some (f.index + 1) } := by
  have incomplete : ¬ Config.syncRun ≤ p.run + 1 := by simp only [Config.syncRun]; omega
  simp [State.frameInSync, contiguous, incomplete]

/-- R6: the fourth contiguous frame takes the line to LIVE, acts with its marker there and is handed on. -/
theorem State.frameInSync_of_complete {p : LinePort} {f : SampleFrame} (s : State) (l : Line)
    (contiguous : p.expected = some f.index) (complete : p.run = 3) (room : p.buffer.length < 4) :
    (s.setPort l p).frameInSync l f =
      (s.requestAll (.lineChange .runComplete l .live p.test (some f.index) ::
        markerNotices l .live p.test f)).setPort l
        { p with
          state := .live, run := 4, backward := 0, overrunFill := 0, expected := some (f.index + 1)
          test := testAfter f.marker
          buffer := p.buffer ++ [⟨l, f.index, 0, testAfter f.marker, f.map, 0⟩] } := by
  have live : (s.setPort l p).frameInSync l f =
      (((s.setPort l { p with
          state := .live, run := 4, backward := 0, overrunFill := 0
          expected := some (f.index + 1) }).lineNotice l .runComplete
        (some f.index)).actMarker l f).bufferFrame l f 0 := by
    simp [State.frameInSync, contiguous, complete, Config.syncRun]
  rw [live, State.lineNotice_setPort, State.actMarker_setPort, State.bufferFrame_setPort_of_room]
  · rfl
  · exact room

/-- Settles O13, by the line state and, in SYNC, by whether the frame continues and completes the run. -/
theorem framesBeforeLive : Obligations.FramesBeforeLive := by
  intro s l f
  refine ⟨fun down => ?_, fun sync other => ?_, fun sync contiguous short => ?_,
    fun sync contiguous complete empty => ?_⟩
  · rw [State.acceptSample_down f down, State.frameInDown_setPort]
    rfl
  · rw [State.acceptSample_sync f sync, State.frameInSync_of_ne s l (p := s.restartedPort l) sync other]
    rfl
  · rw [State.acceptSample_sync f sync, State.frameInSync_of_short s l (p := s.restartedPort l) contiguous short]
    rfl
  · have room : (s.restartedPort l).buffer.length < 4 := by simp [State.restartedPort, empty]
    rw [State.acceptSample_sync f sync,
      State.frameInSync_of_complete s l (p := s.restartedPort l) contiguous complete room]
    simp [State.restartedPort, markerNotices, empty]

/-! ## The class of a frame in LIVE (R8) -/

/-- R66: an index precedes another exactly when its distance from it, mod 2^32, is above 2^31. -/
theorem precedes_iff_distance (i e : Index) : precedes i e = true ↔ 2147483649 ≤ (i - e).toNat := by
  simp only [precedes, Bool.and_eq_true, decide_eq_true_eq]
  bv_omega

/-- R8: the repeat of the frame before the expected one lies at the greatest distance. -/
theorem eq_pred_iff_distance (i e : Index) : i = e - 1 ↔ (i - e).toNat = 4294967295 := by
  bv_omega

/-- Settles O14: the three classes are those of `classify`, and the two boundaries are facts about distances
mod 2^32. -/
theorem distanceDecidesTheClass : Obligations.DistanceDecidesTheClass :=
  fun e i _ _ => ⟨rfl, precedes_iff_distance i e, eq_pred_iff_distance i e⟩

/-! ## Field commands (R15, R16) -/

theorem exec_fieldCommandTxStart (l : Line) (s : State) :
    exec (.fieldCommandTxStart l) s = execFieldCommandTxStart l s := rfl

theorem exec_fieldCommandTxDone (l : Line) (s : State) :
    exec (.fieldCommandTxDone l) s = execFieldCommandTxDone l s := rfl

theorem State.whileReleased_of_released {s : State} (released : s.pins.rstn = true) (t : State) :
    s.whileReleased t = .next t := by
  simp [State.whileReleased, released]

/-- R16: an idle transmitter starts the oldest frame, which stays in the queue. -/
theorem execFieldCommandTxStart_of_idle {s : State} {l : Line} {f : InnerFrame} {rest : List InnerFrame}
    (released : s.pins.rstn = true) (idle : (s.port l).tx = none) (queue : (s.port l).fieldQueue = f :: rest) :
    execFieldCommandTxStart l s =
      .next (s.setPort l { s.port l with tx := some (envelope f.kind f.payload) }) := by
  simp only [execFieldCommandTxStart, State.whileReleased_of_released released, idle, queue]

/-- R16: once its last byte has been sent, the frame leaves the queue. -/
theorem execFieldCommandTxDone_of_busy {s : State} {l : Line} {bytes : List Byte}
    (released : s.pins.rstn = true) (busy : (s.port l).tx = some bytes) :
    execFieldCommandTxDone l s =
      .next (s.setPort l { s.port l with tx := none, fieldQueue := (s.port l).fieldQueue.tail }) := by
  simp only [execFieldCommandTxDone, State.whileReleased_of_released released, busy]

/-- Settles O18: the queue's rule is the model's, and each of the two transmitter rows is run once. -/
theorem fieldCommandsQueuedAndSent : Obligations.FieldCommandsQueuedAndSent := by
  intro s l
  refine ⟨fun f => rfl, fun released => ⟨fun f rest idle queue => ?_, fun busy => ?_⟩⟩
  · rw [exec_fieldCommandTxStart, execFieldCommandTxStart_of_idle released idle queue]
    rfl
  · obtain ⟨bytes, sending⟩ := Option.isSome_iff_exists.mp busy
    rw [exec_fieldCommandTxDone, execFieldCommandTxDone_of_busy released sending]

end Sys2Proof.Machine
end

section
/-! PROOFS. One instant taken whole: the station states, the history rings and the STATION notices (chapter 2). -/

namespace Sys2Proof.Machine

/-! ## What a run of a list's steps keeps -/

/-- What holds of a state and is kept by every step holds once the steps of a list have been made in turn. -/
theorem foldl_invariant {σ α : Type} (P : σ → Prop) {f : σ → α → σ} (keeps : ∀ t a, P t → P (f t a)) :
    ∀ (as : List α) (s : σ), P s → P (as.foldl f s)
  | [], _, start => start
  | a :: as, s, start => foldl_invariant P keeps as (f s a) (keeps s a start)

/-- A view of the state that no step changes stays as it was. -/
theorem foldl_keeps {σ α β : Type} (view : σ → β) {f : σ → α → σ} (keeps : ∀ t a, view (f t a) = view t)
    (as : List α) (s : σ) : view (as.foldl f s) = view s :=
  foldl_invariant (fun t => view t = view s) (fun t a same => (keeps t a).trans same) as s rfl

theorem filterMap_cons_toList {α β : Type} (f : α → Option β) (a : α) (as : List α) :
    (a :: as).filterMap f = (f a).toList ++ as.filterMap f := by
  rw [List.filterMap_eq_flatMap_toList, List.flatMap_cons, ← List.filterMap_eq_flatMap_toList]

/-! ## Status confirmation (R22 to R26, R30) -/

theorem readStatusCode_val (b : Byte) : (readStatusCode b).val = if b.toNat < 16 then b.toNat else 15 := by
  unfold readStatusCode
  split <;> rfl

/-- R23: the confirmed code again takes the candidate away. -/
theorem confirmCode_of_confirmed {c : StatusCode} {x : StationState} (same : x.confirmed = some c) :
    confirmCode c x = { x with candidate := none } := by
  simp [confirmCode, same]

/-- R23, R24: the candidate code again is confirmed. -/
theorem confirmCode_of_candidate {c : StatusCode} {x : StationState} (new : x.confirmed ≠ some c)
    (again : x.candidate = some c) :
    confirmCode c x = { x with confirmed := some c, candidate := none, unread := enterUnread x.unread c } := by
  simp [confirmCode, new, again]

/-- R23: any other code becomes the candidate. -/
theorem confirmCode_of_new {c : StatusCode} {x : StationState} (new : x.confirmed ≠ some c)
    (other : x.candidate ≠ some c) : confirmCode c x = { x with candidate := some c } := by
  simp [confirmCode, new, other]

@[simp] theorem receiveSlot_absent (x : StationState) : receiveSlot none x = x := rfl

@[simp] theorem receiveSlot_present (d : SlotData) (x : StationState) :
    receiveSlot (some d) x = { confirmCode (readStatusCode d.status) x with held := d.samples } := rfl

theorem codeChange_self (x : StationState) : codeChange x x = none := by
  unfold codeChange
  split
  · rename_i c confirmed
    simp [confirmed]
  · rfl

/-- R24: a present slot changes the confirmed code exactly when it carries the candidate code, and that is
not the confirmed one. -/
theorem codeChange_confirmCode (c : StatusCode) (held : Samples) (x : StationState) :
    codeChange x { confirmCode c x with held := held } =
      if x.confirmed ≠ some c ∧ x.candidate = some c then some (c, x.confirmed) else none := by
  by_cases same : x.confirmed = some c
  · simp [confirmCode_of_confirmed same, codeChange, same]
  · by_cases again : x.candidate = some c
    · simp [confirmCode_of_candidate same again, codeChange, same, again]
    · rw [confirmCode_of_new same again, if_neg fun h => again h.2]
      exact codeChange_self x

/-! ## The detector leaves the status and the held sample alone (R37) -/

/-- A station's status and held sample, which its slots set and its detector only reads (R23, R26, R30). -/
def StationState.received (x : StationState) :
    Option StatusCode × Option StatusCode × List StatusCode × Samples :=
  (x.confirmed, x.candidate, x.unread, x.held)

theorem StationState.held_of_received {x y : StationState} (h : x.received = y.received) : x.held = y.held :=
  congrArg (·.2.2.2) h

theorem judgeActivity_received (ok : Bool) (x : StationState) : (judgeActivity ok x).received = x.received := by
  unfold judgeActivity
  split <;> cases ok <;> rfl

theorem continuity_received (old new : Bank) (i : Station) (ok : Bool) (x : StationState) :
    (continuity old new i ok x).received = x.received := by
  unfold continuity
  split_ifs <;> rfl

theorem leaveOn_received (h : Nat) (x : StationState) : (leaveOn h x).received = x.received := by
  unfold leaveOn
  split_ifs <;> rfl

theorem onsetStep_received (inp : DetectorInput) (r : Nat) (x : StationState) :
    (onsetStep inp r x).after.received = x.received := by
  unfold onsetStep
  split_ifs <;> rfl

theorem pendingStep_received (inp : DetectorInput) (met : Bool) (r : Nat) (x : StationState) :
    (pendingStep inp met r x).after.received = x.received := by
  simp only [pendingStep]
  split_ifs <;> rfl

theorem onStep_received (inp : DetectorInput) (off : Bool) (x : StationState) :
    (onStep inp off x).after.received = x.received := by
  simp only [onStep]
  split_ifs
  · exact leaveOn_received _ _
  · exact leaveOn_received _ _
  · rfl

theorem holdStep_received (x : StationState) : (holdStep x).after.received = x.received := by
  unfold holdStep
  split_ifs <;> rfl

theorem transitionStep_received (inp : DetectorInput) (x : StationState) :
    (transitionStep inp x).after.received = x.received := by
  cases state : x.det <;> simp only [transitionStep, state]
  case warmup => split_ifs <;> rfl
  case armed =>
    split_ifs
    · exact onsetStep_received _ _ _
    · rfl
  case pending => exact pendingStep_received _ _ _ _
  case on => exact onStep_received _ _ _
  case hold => exact holdStep_received _

theorem ltaStep_received (t : Transition) (e b : Nat) (x : StationState) :
    (ltaStep t e b x).received = x.received := by
  cases t <;> rfl

theorem detectorWork_received (inp : DetectorInput) (x : StationState) :
    (detectorWork inp x).after.received = x.received := by
  unfold detectorWork
  split_ifs
  · rfl
  all_goals exact (ltaStep_received _ _ _ _).trans (transitionStep_received _ _)

theorem stationFlow_received (n : Instant) (old : Option Bank) (bank : Bank) (i : Station) (x : StationState) :
    (stationFlow n old bank i x).after.received = (receiveSlot (n.slot i) x).received := by
  refine (detectorWork_received _ _).trans ((judgeActivity_received _ _).trans ?_)
  cases old with
  | none => rfl
  | some b => exact continuity_received _ _ _ _ _

/-- R30: the held sample moves only with a present place. -/
theorem stationFlow_held (n : Instant) (old : Option Bank) (bank : Bank) (i : Station) (x : StationState) :
    (stationFlow n old bank i x).after.held = (receiveSlot (n.slot i) x).held :=
  StationState.held_of_received (stationFlow_received n old bank i x)

@[simp] theorem stationFlow_confirmed (n : Instant) (old : Option Bank) (bank : Bank) (i : Station)
    (x : StationState) :
    (stationFlow n old bank i x).confirmed = codeChange x (receiveSlot (n.slot i) x) := rfl

/-! ## Requests that find room (R143) -/

theorem State.request_of_room {s : State} {x : Notice} (on : s.ctrl.settings.mask.get x.cls = true)
    (room : s.trunk.notice.length < 16) :
    s.request x = s.withNotices (s.trunk.notice ++ [x.frame s.unitAddress]) s.ctrl.flags s.ctrl.lostFaults := by
  have kept : ¬ 16 ≤ s.trunk.notice.length := Nat.not_le.mpr room
  simp only [State.request, State.noticeDropped, State.offerNotice, Config.noticePlaces, on, kept, room,
    decide_true, decide_false, Bool.and_true, Bool.and_false, Bool.false_eq_true, ↓reduceIte]
  rfl

/-- With their classes on and room for all, requests append their frames in turn. -/
theorem State.requestAll_of_room : ∀ (xs : List Notice) (s : State),
    (∀ x ∈ xs, s.ctrl.settings.mask.get x.cls = true) → s.trunk.notice.length + xs.length ≤ 16 →
    s.requestAll xs = s.withNotices (s.trunk.notice ++ xs.map fun x => x.frame s.unitAddress) s.ctrl.flags
      s.ctrl.lostFaults
  | [], s, _, _ => by
    rw [List.map_nil, List.append_nil]
    rfl
  | x :: xs, s, on, room => by
    rw [List.length_cons] at room
    rw [State.requestAll_cons, State.request_of_room (on x List.mem_cons_self) (by omega),
      State.requestAll_of_room xs]
    · simp
    · exact fun y hy => on y (List.mem_cons_of_mem x hy)
    · simp only [State.withNotices_notice, List.length_append, List.length_cons, List.length_nil]
      omega

/-! ## What a direct write leaves alone (R116) -/

/-- The state but for what a station's part of an instant can change: the sample memory, the capture engine, the
NOTICE queue, the flags and the FAULT requests on their way. -/
def State.untouched (s : State) : State :=
  { s with
    mem := ⟨[], []⟩, capture := CaptureEngine.reset, trunk := { s.trunk with notice := [] }
    ctrl := { s.ctrl with flags := Flags.clear, lostFaults := [] } }

theorem State.withNotices_untouched (s : State) (ns : List NoticeFrame) (fl : Flags) (lf : List Byte) :
    (s.withNotices ns fl lf).untouched = s.untouched := rfl

theorem State.requestAll_untouched (s : State) (xs : List Notice) : (s.requestAll xs).untouched = s.untouched := by
  obtain ⟨_, _, _, requested, _⟩ := State.requestAll_spec xs s
  rw [requested, State.withNotices_untouched]

theorem State.entryEvent_untouched (s : State) (p : Fin 32) (st : Station) (f : StationEntry → StationEntry) :
    (s.entryEvent p st f).untouched = s.untouched := by
  obtain same | ⟨_, _, _, _, _, _, _, _, changed, _⟩ := s.entryEvent_spec p st f
  · rw [same]
  · rw [changed]
    rfl

@[simp] theorem State.entryEvent_mem (s : State) (p : Fin 32) (st : Station) (f : StationEntry → StationEntry) :
    (s.entryEvent p st f).mem = s.mem := by
  obtain same | ⟨_, _, _, _, _, _, _, _, changed, _⟩ := s.entryEvent_spec p st f
  · rw [same]
  · rw [changed]
    rfl

/-- R116: a direct write does nothing, or it writes one place of the entry's chain and is an event at the entry. -/
theorem State.directWriteAt_spec (n : Instant) (st : Station) (x : BlockPlace) (s : State) (p : Fin 32) :
    s.directWriteAt n st x p = s ∨ ∃ chain offset f,
      s.directWriteAt n st x p = ({ s with mem := s.mem.writeChain chain offset x } : State).entryEvent p st f := by
  unfold State.directWriteAt
  split
  · exact .inl rfl
  · split
    · split_ifs
      · exact .inr ⟨_, _, _, rfl⟩
      · exact .inl rfl
    · exact .inl rfl

theorem State.directWriteAt_untouched (n : Instant) (st : Station) (x : BlockPlace) (s : State) (p : Fin 32) :
    (s.directWriteAt n st x p).untouched = s.untouched := by
  obtain same | ⟨chain, offset, f, written⟩ := s.directWriteAt_spec n st x p
  · rw [same]
  · rw [written, State.entryEvent_untouched]
    rfl

theorem State.directWriteAt_rings (n : Instant) (st : Station) (x : BlockPlace) (s : State) (p : Fin 32) :
    (s.directWriteAt n st x p).mem.rings = s.mem.rings := by
  obtain same | ⟨chain, offset, f, written⟩ := s.directWriteAt_spec n st x p
  · rw [same]
  · rw [written, State.entryEvent_mem, SampleMemory.writeChain_rings]

/-- A direct write keeps the canonical form of the sample memory. -/
theorem State.directWriteAt_wf {s : State} (n : Instant) (st : Station) (x : BlockPlace) (p : Fin 32)
    (wf : Memory.wf s.mem = true) : Memory.wf (s.directWriteAt n st x p).mem = true := by
  obtain same | ⟨chain, offset, f, written⟩ := s.directWriteAt_spec n st x p
  · rw [same]
    exact wf
  · rw [written, State.entryEvent_mem]
    exact SampleMemory.writeChain_wf _ _ _ wf

theorem State.directWriteAt_of_free {s : State} {p : Fin 32} (n : Instant) (st : Station) (x : BlockPlace)
    (free : s.record p = none) : s.directWriteAt n st x p = s := by
  simp only [State.directWriteAt, free]

theorem State.directWrites_untouched (s : State) (n : Instant) (st : Station) (x : BlockPlace) :
    (s.directWrites n st x).untouched = s.untouched := by
  rw [State.directWrites]
  exact foldl_keeps State.untouched (State.directWriteAt_untouched n st x) allPlaces s

@[simp] theorem State.directWrites_rings (s : State) (n : Instant) (st : Station) (x : BlockPlace) :
    (s.directWrites n st x).mem.rings = s.mem.rings := by
  rw [State.directWrites]
  exact foldl_keeps (fun t => t.mem.rings) (State.directWriteAt_rings n st x) allPlaces s

theorem State.directWrites_wf {s : State} (n : Instant) (st : Station) (x : BlockPlace)
    (wf : Memory.wf s.mem = true) : Memory.wf (s.directWrites n st x).mem = true := by
  rw [State.directWrites]
  exact foldl_invariant (fun t : State => Memory.wf t.mem = true)
    (fun _ p => State.directWriteAt_wf n st x p) allPlaces s wf

/-- With no record there is no entry to write. -/
theorem State.directWrites_of_free {s : State} (n : Instant) (st : Station) (x : BlockPlace)
    (free : ∀ p, s.record p = none) : s.directWrites n st x = s := by
  rw [State.directWrites]
  exact foldl_invariant (fun t => t = s)
    (fun _ p same => same.symm ▸ State.directWriteAt_of_free n st x (free p)) allPlaces s rfl

/-! ## The slots of the history rings (R29) -/

theorem SampleMemory.ringSlot_of_rings {m m' : SampleMemory} (same : m.rings = m'.rings) (i : Station) (k : Index) :
    m.ringSlot i k = m'.ringSlot i k := by
  rw [SampleMemory.ringSlot, SampleMemory.ringSlot, same]

/-- R29: indices of one residue mod 4096 share their slot. -/
theorem SampleMemory.ringSlot_of_residue (m : SampleMemory) (i : Station) {k k' : Index}
    (same : k.toNat % 4096 = k'.toNat % 4096) : m.ringSlot i k = m.ringSlot i k' := by
  rw [SampleMemory.ringSlot, SampleMemory.ringSlot, ringAddress, ringAddress, Config.ringSlots, same]

/-! ## One station's part of an instant (Table 2.7) -/

/-- R24: the STATION notice that a station's part of an instant requests. -/
def StationFlow.changeNotice (f : StationFlow) (n : Instant) (i : Station) : Option Notice :=
  f.confirmed.map fun change => .statusChange i change.1 change.2 n.index

/-- R30: what a station's part of an instant writes to its ring. -/
def Instant.ringSlotOf (n : Instant) (i : Station) (x : StationState) : RingSlot :=
  ⟨some n.index, (writtenPlace (n.slot i) x).filled, (writtenPlace (n.slot i) x).samples⟩

theorem Instant.ringSlotOf_of_present {n : Instant} {i : Station} {d : SlotData} (present : n.slot i = some d)
    (x : StationState) : n.ringSlotOf i x = ⟨some n.index, false, d.samples⟩ := by
  rw [Instant.ringSlotOf, present]
  rfl

theorem Instant.ringSlotOf_of_absent {n : Instant} {i : Station} (absent : n.slot i = none) (x : StationState) :
    n.ringSlotOf i x = ⟨some n.index, true, x.held⟩ := by
  rw [Instant.ringSlotOf, absent]
  rfl

theorem StationFlow.changeNotice_cls {f : StationFlow} {n : Instant} {i : Station} {x : Notice}
    (requested : f.changeNotice n i = some x) : x.cls = .station := by
  obtain ⟨_, _, rfl⟩ := Option.map_eq_some_iff.mp requested
  rfl

section StationEffects

variable (n : Instant) (before : Station → StationState) (flow : Station → StationFlow) (s : State) (i : Station)

theorem State.stationEffects_eq : s.stationEffects n before flow i =
    ({ s.requestAll ((flow i).changeNotice n i).toList with
      mem := s.mem.writeRing i n.index (n.ringSlotOf i (before i)) } : State).directWrites n i
        (writtenPlace (n.slot i) (before i)) := by
  unfold State.stationEffects StationFlow.changeNotice
  cases (flow i).confirmed with
  | none => rfl
  | some change =>
    simp only [Option.map_some, Option.toList_some, State.requestAll_cons, State.requestAll_nil,
      State.request_mem]
    rfl

theorem State.stationEffects_untouched : (s.stationEffects n before flow i).untouched = s.untouched := by
  rw [State.stationEffects_eq, State.directWrites_untouched]
  exact State.requestAll_untouched _ _

@[simp] theorem State.stationEffects_rings : (s.stationEffects n before flow i).mem.rings =
    (s.mem.writeRing i n.index (n.ringSlotOf i (before i))).rings := by
  rw [State.stationEffects_eq, State.directWrites_rings]

theorem State.stationEffects_wf (wf : Memory.wf s.mem = true) :
    Memory.wf (s.stationEffects n before flow i).mem = true := by
  rw [State.stationEffects_eq]
  exact State.directWrites_wf n i _ (SampleMemory.writeRing_wf _ _ _ wf)

/-- R30: a station's part of an instant writes one slot of the station's own ring. -/
theorem State.stationEffects_ringSlot (wf : Memory.wf s.mem = true) (j : Station) (k : Index) :
    (s.stationEffects n before flow i).mem.ringSlot j k =
      if j = i ∧ k.toNat % 4096 = n.index.toNat % 4096 then n.ringSlotOf i (before i)
      else s.mem.ringSlot j k := by
  rw [SampleMemory.ringSlot_of_rings (State.stationEffects_rings n before flow s i)]
  split_ifs with written
  · obtain ⟨rfl, residue⟩ := written
    rw [SampleMemory.ringSlot_of_residue _ _ residue, SampleMemory.ringSlot_writeRing_same _ _ _ wf]
  · exact SampleMemory.ringSlot_writeRing_other _ wf (not_and_or.mp written)

/-- Without an event record a station's part of an instant requests its STATION notice and no other. -/
theorem State.stationEffects_of_free (free : ∀ p, s.record p = none) : s.stationEffects n before flow i =
    { s.requestAll ((flow i).changeNotice n i).toList with
      mem := s.mem.writeRing i n.index (n.ringSlotOf i (before i)) } := by
  rw [State.stationEffects_eq]
  exact State.directWrites_of_free n i _ fun p => (State.requestAll_record s _ p).trans (free p)

end StationEffects

/-! ## The stations of a line in turn -/

section Stations

variable (n : Instant) (before : Station → StationState) (flow : Station → StationFlow)

/-- R30: each station's part writes its own slot, whatever the order of the stations. -/
theorem State.stationsEffects_ringSlot (j : Station) (k : Index) : ∀ (is : List Station) (s : State),
    Memory.wf s.mem = true →
    (is.foldl (State.stationEffects n before flow) s).mem.ringSlot j k =
      if j ∈ is ∧ k.toNat % 4096 = n.index.toNat % 4096 then n.ringSlotOf j (before j) else s.mem.ringSlot j k
  | [], s, _ => by simp
  | i :: is, s, wf => by
    rw [List.foldl_cons, State.stationsEffects_ringSlot j k is _ (State.stationEffects_wf n before flow s i wf),
      State.stationEffects_ringSlot n before flow s i wf j k]
    by_cases first : j = i
    · subst first
      by_cases residue : k.toNat % 4096 = n.index.toNat % 4096 <;> simp [residue]
    · simp [first]

/-- R24, R143: without an event record, with the class on and room for all, the STATION notices of a line's
stations enter the NOTICE queue in turn. -/
theorem State.stationsEffects_notice : ∀ (is : List Station) (s : State), (∀ p, s.record p = none) →
    s.ctrl.settings.mask.station = true →
    s.trunk.notice.length + (is.filterMap fun i => (flow i).changeNotice n i).length ≤ 16 →
    (is.foldl (State.stationEffects n before flow) s).trunk.notice =
      s.trunk.notice ++ (is.filterMap fun i => (flow i).changeNotice n i).map fun x => x.frame s.unitAddress
  | [], s, _, _, _ => (List.append_nil _).symm
  | i :: is, s, free, on, room => by
    rw [filterMap_cons_toList, List.length_append] at room
    have own := State.requestAll_of_room ((flow i).changeNotice n i).toList s
      (fun x hx => (congrArg _ (StationFlow.changeNotice_cls (Option.mem_toList.mp hx))).trans on) (by omega)
    have effects := State.stationEffects_of_free n before flow s i free
    rw [own] at effects
    rw [List.foldl_cons, State.stationsEffects_notice is, effects, filterMap_cons_toList,
      List.map_append, ← List.append_assoc]
    · rfl
    · exact fun p => effects ▸ free p
    · exact effects ▸ on
    · rw [effects]
      show (s.trunk.notice ++ _).length + _ ≤ 16
      rw [List.length_append, List.length_map]
      omega

end Stations

/-! ## Posting picks (R68, R70) -/

theorem State.postPick_bank (s : State) (p : Pick) : (s.postPick p).bank = s.bank := by
  unfold State.postPick
  split_ifs
  · rfl
  · exact State.report_bank _ _ _

theorem State.postPick_mem (s : State) (p : Pick) : (s.postPick p).mem = s.mem := by
  unfold State.postPick
  split_ifs
  · rfl
  · exact State.report_mem _ _ _

@[simp] theorem State.postPicks_bank (s : State) (ps : List Pick) : (s.postPicks ps).bank = s.bank :=
  foldl_keeps State.bank State.postPick_bank ps s

@[simp] theorem State.postPicks_mem (s : State) (ps : List Pick) : (s.postPicks ps).mem = s.mem :=
  foldl_keeps State.mem State.postPick_mem ps s

/-- R70: picks that all find at most 253 entries before them are admitted. -/
theorem State.postPicks_of_room : ∀ (ps : List Pick) (s : State), s.pickQueue.length + ps.length ≤ 254 →
    s.postPicks ps = { s with pickQueue := s.pickQueue ++ ps.map .pick }
  | [], s, _ => by
    rw [List.map_nil, List.append_nil]
    rfl
  | p :: ps, s, room => by
    rw [List.length_cons] at room
    have admitted : s.postPick p = { s with pickQueue := s.pickQueue ++ [.pick p] } :=
      if_pos (show s.pickQueue.length ≤ 253 by omega)
    rw [State.postPicks, List.foldl_cons, admitted, ← State.postPicks, State.postPicks_of_room ps, List.append_assoc]
    · rfl
    · simp only [List.length_append, List.length_cons, List.length_nil]
      omega

/-! ## An instant taken whole (R59) -/

theorem stationsOf_length (l : Line) : (stationsOf l).length = 32 := by
  cases l <;> decide

theorem stationsOf_pairwise (l : Line) : (stationsOf l).Pairwise (fun i j => i < j) :=
  (List.pairwise_ofFn.mpr fun _ _ h => h).filter _

section Taken

variable (s : State) (n : Instant)

/-- The state in which an instant's stations begin their parts: the input buffer has given the instant up, and
the line has switched if it switches with it (R12, R61). -/
def State.begun : State :=
  let s0 := s.setPort n.line { s.port n.line with buffer := afterTake (s.port n.line).buffer }
  if switchesAt (s.bankLine n.line).switch n.index then s0.takeShadow n.line else s0

/-- The state once an instant's stations have done their parts but for their own states (Table 2.7). -/
def State.worked : State :=
  (stationsOf n.line).foldl (State.stationEffects n s.station (s.flowOf n)) (s.begun n)

/-- The picks of an instant, in ascending station order (R68). -/
def State.picksOf : List Pick := (stationsOf n.line).filterMap fun i => (s.flowOf n i).pick

theorem State.takeWhole_eq : s.takeWhole n =
    (let s3 := (s.worked n).mapStations fun i x => if lineOf i = n.line then (s.flowOf n i).after else x
    let s4 := s3.setBankLine n.line ((s3.bankLine n.line).took n)
    (s4.postPicks (s.picksOf n)).postMark ⟨n.line, true, some n.index, false⟩) := rfl

@[simp] theorem State.begun_station (i : Station) : (s.begun n).station i = s.station i := by
  unfold State.begun
  split_ifs <;> rfl

@[simp] theorem State.begun_mem : (s.begun n).mem = s.mem := by
  unfold State.begun
  split_ifs <;> rfl

@[simp] theorem State.begun_record (p : Fin 32) : (s.begun n).record p = s.record p := by
  unfold State.begun
  split_ifs <;> rfl

@[simp] theorem State.begun_trunk : (s.begun n).trunk = s.trunk := by
  unfold State.begun
  split_ifs <;> rfl

@[simp] theorem State.begun_unitAddress : (s.begun n).unitAddress = s.unitAddress := by
  unfold State.begun
  split_ifs <;> rfl

@[simp] theorem State.begun_pickQueue : (s.begun n).pickQueue = s.pickQueue := by
  unfold State.begun
  split_ifs <;> rfl

@[simp] theorem State.begun_ctrl_settings : (s.begun n).ctrl.settings = s.ctrl.settings := by
  unfold State.begun
  split_ifs <;> rfl

theorem State.worked_untouched : (s.worked n).untouched = (s.begun n).untouched := by
  rw [State.worked]
  exact foldl_keeps State.untouched (State.stationEffects_untouched n _ _) _ _

theorem State.worked_station (i : Station) : (s.worked n).station i = s.station i :=
  (congrArg (fun t => t.station i) (s.worked_untouched n)).trans (s.begun_station n i)

theorem State.worked_pickQueue : (s.worked n).pickQueue = s.pickQueue :=
  (congrArg State.pickQueue (s.worked_untouched n)).trans (s.begun_pickQueue n)

@[simp] theorem State.takeWhole_mem : (s.takeWhole n).mem = (s.worked n).mem := by
  simp [State.takeWhole_eq]

/-- R59: an instant gives every station of its line the state that its flow says, and no other station. -/
theorem State.takeWhole_station (i : Station) :
    (s.takeWhole n).station i = if lineOf i = n.line then (s.flowOf n i).after else s.station i := by
  rw [State.takeWhole_eq, State.postMark_station, State.station_of_bank (State.postPicks_bank _ _),
    State.setBankLine_station, State.mapStations_station, State.worked_station]

/-- R30: an instant writes one slot of the ring of every station of its line. -/
theorem State.takeWhole_ringSlot {s : State} (wf : Memory.wf s.mem = true) (i : Station) (k : Index) :
    (s.takeWhole n).mem.ringSlot i k =
      if lineOf i = n.line ∧ k.toNat % 4096 = n.index.toNat % 4096 then n.ringSlotOf i (s.station i)
      else s.mem.ringSlot i k := by
  have begun : Memory.wf (s.begun n).mem = true := (State.begun_mem s n).symm ▸ wf
  rw [State.takeWhole_mem, State.worked, State.stationsEffects_ringSlot _ _ _ _ _ _ _ begun, State.begun_mem]
  simp only [mem_stationsOf]

/-- R143: an instant whose picks are all admitted requests no notice once its stations have done their parts. -/
theorem State.takeWhole_notice_of_room {s : State} (room : s.pickQueue.length ≤ 222) :
    (s.takeWhole n).trunk.notice = (s.worked n).trunk.notice := by
  have picks : (s.picksOf n).length ≤ 32 := (List.length_filterMap_le _ _).trans_eq (stationsOf_length n.line)
  rw [State.takeWhole_eq]
  simp only
  rw [State.postPicks_of_room]
  · rfl
  · rw [State.setBankLine_pickQueue, State.mapStations_pickQueue, State.worked_pickQueue]
    omega

/-- R24: the STATION notice of a station's flow, from what the station held and its slot. -/
theorem State.flowOf_changeNotice (i : Station) : (s.flowOf n i).changeNotice n i =
    match n.slot i with
    | none => none
    | some d =>
      if (s.station i).confirmed ≠ some (readStatusCode d.status) ∧
          (s.station i).candidate = some (readStatusCode d.status) then
        some (.statusChange i (readStatusCode d.status) (s.station i).confirmed n.index)
      else none := by
  rw [StationFlow.changeNotice, State.flowOf, stationFlow_confirmed]
  cases n.slot i with
  | none => rw [receiveSlot_absent, codeChange_self, Option.map_none]
  | some d =>
    rw [receiveSlot_present, codeChange_confirmCode]
    simp only
    split_ifs <;> rfl

/-- R24, R143: without an event record and with room, an instant's notices are the frames of the STATION notices of
its line's stations, here by any function that says which frame each station's is. -/
theorem State.takeWhole_notice {s : State} {change : Station → Option NoticeFrame} (free : ∀ p, s.record p = none)
    (queue : s.pickQueue.length ≤ 222) (on : s.ctrl.settings.mask.station = true)
    (frames : ∀ i, change i = ((s.flowOf n i).changeNotice n i).map fun x => x.frame s.unitAddress)
    (room : s.trunk.notice.length + ((stationsOf n.line).filterMap change).length ≤ 16) :
    (s.takeWhole n).trunk.notice = s.trunk.notice ++ (stationsOf n.line).filterMap change := by
  rw [funext frames, ← List.map_filterMap] at room ⊢
  rw [List.length_map] at room
  rw [State.takeWhole_notice_of_room n queue, State.worked, State.stationsEffects_notice, State.begun_trunk,
    State.begun_unitAddress]
  · exact fun p => (State.begun_record s n p).trans (free p)
  · rw [State.begun_ctrl_settings]
    exact on
  · rw [State.begun_trunk]
    exact room

end Taken

/-- Settles O21: the rings by the parts of the line's stations in turn, the held sample by the station's flow. -/
theorem ringHoldsTheInstantTaken : Obligations.RingHoldsTheInstantTaken := by
  intro s n wf
  refine ⟨fun i own => ?_, fun i k other => ?_⟩
  · rw [State.takeWhole_ringSlot n wf, if_pos ⟨own, rfl⟩, State.takeWhole_station, if_pos own, State.flowOf,
      stationFlow_held]
    cases slot : n.slot i with
    | none => exact ⟨Instant.ringSlotOf_of_absent slot _, rfl⟩
    | some d => exact ⟨Instant.ringSlotOf_of_present slot _, rfl⟩
  · rw [State.takeWhole_ringSlot n wf, if_neg (not_and_or.mpr other)]

/-- Settles O22: the status clauses are equations of the model, and the STATION notices are those of the flows of the
line's stations in turn. -/
theorem statusCodesConfirmed : Obligations.StatusCodesConfirmed := by
  refine ⟨readStatusCode_val, rfl, fun c => decide_eq_true_iff, fun c x => ⟨confirmCode_of_confirmed,
    confirmCode_of_candidate, confirmCode_of_new⟩, receiveSlot_absent, receiveSlot_present,
    fun _ _ _ => ⟨rfl, rfl, rfl⟩, fun s n free queue on => ⟨stationsOf n.line, mem_stationsOf n.line,
      stationsOf_pairwise n.line, State.takeWhole_notice n free queue on fun i => ?_⟩⟩
  rw [State.flowOf_changeNotice]
  cases n.slot i with
  | none => rfl
  | some d =>
    simp only
    split_ifs
    · cases (s.station i).confirmed <;> rfl
    · rfl

end Sys2Proof.Machine
end

section
/-! PROOFS. The pick queue: what a posted LINE MARK and an admitted PICK make of it, what each command can make of
it, and the bound on its entries (chapter 5). -/

namespace Sys2Proof.Machine

/-! ## The last entry of a line -/

theorem lastOf_append (q r : List QueueEntry) (l : Line) : lastOf (q ++ r) l = (lastOf r l).or (lastOf q l) := by
  simp [lastOf, List.getLast?_append]

@[simp] theorem lastOf_nil (l : Line) : lastOf [] l = none := rfl

theorem lastOf_singleton (e : QueueEntry) (l : Line) : lastOf [e] l = if e.line = l then some e else none := by
  by_cases own : e.line = l <;> simp [lastOf, own]

theorem lastOf_cons (e : QueueEntry) (q : List QueueEntry) (l : Line) :
    lastOf (e :: q) l = (lastOf q l).or (if e.line = l then some e else none) := by
  rw [← lastOf_singleton, ← lastOf_append, List.singleton_append]

theorem lastOf_eq_none_iff (q : List QueueEntry) (l : Line) : lastOf q l = none ↔ ∀ e ∈ q, e.line ≠ l := by
  simp [lastOf]

theorem mem_of_lastOf {q : List QueueEntry} {l : Line} {e : QueueEntry} (last : lastOf q l = some e) :
    e ∈ q ∧ e.line = l := by
  simpa using List.mem_of_getLast? last

/-! ## Lines whose last entry is a LINE MARK -/

/-- The line has an entry in the queue, and its last one is a LINE MARK. -/
def markEnds (q : List QueueEntry) (l : Line) : Bool := (lastOf q l).any (QueueEntry.isMarkOf l)

/-- The number of lines whose last entry is a LINE MARK. -/
def markedLines (q : List QueueEntry) : Nat := (markEnds q .a).toNat + (markEnds q .b).toNat

theorem markEnds_of_endsInMark {q : List QueueEntry} {l : Line} (ends : endsInMark q l) :
    markEnds q l = (lastOf q l).isSome := by
  cases last : lastOf q l with
  | none => simp [markEnds, last]
  | some e => simp [markEnds, last, ends e last]

theorem markedLines_eq_linesPresent {q : List QueueEntry} (ends : ∀ l, endsInMark q l) :
    markedLines q = linesPresent q := by
  rw [markedLines, markEnds_of_endsInMark (ends .a), markEnds_of_endsInMark (ends .b), linesPresent]

theorem pickQueueOk_iff (q : List QueueEntry) :
    pickQueueOk q ↔ (∀ l, endsInMark q l) ∧ q.length ≤ 254 + markedLines q := by
  constructor
  · rintro ⟨endsA, endsB, bound⟩
    have ends : ∀ l, endsInMark q l := fun l => by cases l <;> assumption
    exact ⟨ends, (markedLines_eq_linesPresent ends).symm ▸ bound⟩
  · rintro ⟨ends, bound⟩
    exact ⟨ends .a, ends .b, markedLines_eq_linesPresent ends ▸ bound⟩

/-! ## A LINE MARK posted (R69) -/

theorem QueueEntry.line_of_isPickOf {e : QueueEntry} {l : Line} (pick : e.isPickOf l = true) : e.line = l := by
  cases e <;> simp_all [QueueEntry.isPickOf, QueueEntry.line]

theorem QueueEntry.line_of_isMarkOf {e : QueueEntry} {l : Line} (mark : e.isMarkOf l = true) : e.line = l := by
  cases e <;> simp_all [QueueEntry.isMarkOf, QueueEntry.line]

/-- An entry of a line is a PICK or a LINE MARK. -/
theorem QueueEntry.isMarkOf_of_not_isPickOf {e : QueueEntry} {l : Line} (own : e.line = l)
    (other : e.isPickOf l = false) : e.isMarkOf l = true := by
  cases e <;> simp_all [QueueEntry.isPickOf, QueueEntry.isMarkOf, QueueEntry.line]

/-- R69: a line without an open mark does not end in a LINE MARK. -/
theorem markEnds_of_coalesce_none (m : LineMark) : ∀ q : List QueueEntry, coalesce m q = none →
    markEnds q m.line = false
  | [], _ => rfl
  | e :: rest, closed => by
    cases inRest : coalesce m rest with
    | some rest' => simp [coalesce, inRest] at closed
    | none =>
      have restEnds : markEnds rest m.line = false := markEnds_of_coalesce_none m rest inRest
      rw [markEnds, lastOf_cons]
      cases last : lastOf rest m.line with
      | some e' => simpa [markEnds, last] using restEnds
      | none =>
        have absent := (lastOf_eq_none_iff rest m.line).mp last
        have noPick : rest.any (QueueEntry.isPickOf m.line) = false := by
          rw [List.any_eq_false]
          exact fun x mem pick => absent x mem (QueueEntry.line_of_isPickOf pick)
        have noMark : e.isMarkOf m.line = false := by simpa [coalesce, inRest, noPick] using closed
        by_cases own : e.line = m.line <;> simp [own, noMark]

/-- The mark that R69 leaves in the place of a line's open mark. -/
def LineMark.over (m old : LineMark) : LineMark := { m with restart := old.restart || m.restart }

/-- R69: the open mark that is updated is the line's last entry. -/
theorem coalesce_eq_some (m : LineMark) : ∀ q q' : List QueueEntry, coalesce m q = some q' →
    ∃ before old after, q = before ++ .mark old :: after ∧ old.line = m.line ∧ lastOf after m.line = none ∧
      q' = before ++ .mark (m.over old) :: after
  | [], _, found => nomatch found
  | e :: rest, q', found => by
    cases inRest : coalesce m rest with
    | some rest' =>
      obtain ⟨before, old, after, rfl, own, last, rfl⟩ := coalesce_eq_some m rest rest' inRest
      simp only [coalesce, inRest, Option.some.injEq] at found
      exact ⟨e :: before, old, after, rfl, own, last, found.symm⟩
    | none =>
      simp only [coalesce, inRest, Option.ite_none_right_eq_some, Bool.and_eq_true, Bool.not_eq_true',
        Option.some.injEq] at found
      obtain ⟨⟨mark, noPick⟩, rfl⟩ := found
      have last : lastOf rest m.line = none := by
        by_contra present
        obtain ⟨e', last⟩ := Option.ne_none_iff_exists'.mp present
        obtain ⟨mem, own⟩ := mem_of_lastOf last
        have mark' := QueueEntry.isMarkOf_of_not_isPickOf own (by simpa using List.any_eq_false.mp noPick e' mem)
        simpa [markEnds, last, mark'] using markEnds_of_coalesce_none m rest inRest
      cases e with
      | pick p => cases mark
      | mark old => exact ⟨[], old, rest, rfl, of_decide_eq_true mark, last, rfl⟩

/-- R69: a LINE MARK posted updates the line's last entry, a LINE MARK, in place, or it is appended to a queue that
does not end in a LINE MARK for the line. -/
theorem placeMark_cases (q : List QueueEntry) (m : LineMark) :
    (∃ before old after, q = before ++ .mark old :: after ∧ old.line = m.line ∧ lastOf after m.line = none ∧
      placeMark q m = before ++ .mark (m.over old) :: after) ∨
    (markEnds q m.line = false ∧ placeMark q m = q ++ [.mark m]) := by
  cases found : coalesce m q with
  | some q' =>
    obtain ⟨before, old, after, split, own, last, rfl⟩ := coalesce_eq_some m q q' found
    exact .inl ⟨before, old, after, split, own, last, by simp [placeMark, found]⟩
  | none => exact .inr ⟨markEnds_of_coalesce_none m q found, by simp [placeMark, found]⟩

/-- R70: a LINE MARK is never refused. -/
theorem mark_mem_placeMark (q : List QueueEntry) (m : LineMark) :
    ∃ r, QueueEntry.mark ⟨m.line, m.live, m.progress, r⟩ ∈ placeMark q m := by
  obtain ⟨before, old, after, -, -, -, placed⟩ | ⟨-, placed⟩ := placeMark_cases q m
  · exact ⟨old.restart || m.restart, by simp [placed, LineMark.over]⟩
  · exact ⟨m.restart, by simp [placed]⟩

theorem markEnds_placeMark_same (q : List QueueEntry) (m : LineMark) : markEnds (placeMark q m) m.line = true := by
  obtain ⟨before, old, after, -, -, last, placed⟩ | ⟨-, placed⟩ := placeMark_cases q m
  · simp [placed, markEnds, lastOf_append, lastOf_cons, last, QueueEntry.line, QueueEntry.isMarkOf, LineMark.over]
  · simp [placed, markEnds, lastOf_append, lastOf_singleton, QueueEntry.line, QueueEntry.isMarkOf]

/-- A LINE MARK posted leaves the last entry of the other line as it is. -/
theorem lastOf_placeMark_other (q : List QueueEntry) (m : LineMark) {l : Line} (other : m.line ≠ l) :
    lastOf (placeMark q m) l = lastOf q l := by
  obtain ⟨before, old, after, rfl, own, -, placed⟩ | ⟨-, placed⟩ := placeMark_cases q m
  · have oldOther : old.line ≠ l := own.symm ▸ other
    simp [placed, lastOf_append, lastOf_cons, QueueEntry.line, LineMark.over, other, oldOther]
  · simp [placed, lastOf_append, lastOf_singleton, QueueEntry.line, other]

/-- A queue that a LINE MARK makes longer has one more line that ends in a LINE MARK. -/
theorem placeMark_length_le (q : List QueueEntry) (m : LineMark) :
    (placeMark q m).length + markedLines q ≤ q.length + markedLines (placeMark q m) := by
  have length : (placeMark q m).length + (markEnds q m.line).toNat ≤ q.length + 1 := by
    obtain ⟨before, old, after, rfl, -, -, placed⟩ | ⟨noMark, placed⟩ := placeMark_cases q m
    · have atMost := Bool.toNat_le (markEnds (before ++ .mark old :: after) m.line)
      simp only [placed, List.length_append, List.length_cons]
      omega
    · simp [placed, noMark]
  have same := markEnds_placeMark_same q m
  have other : ∀ l, m.line ≠ l → markEnds (placeMark q m) l = markEnds q l := fun l h => by
    rw [markEnds, lastOf_placeMark_other q m h, markEnds]
  cases line : m.line <;> rw [line] at same length <;> simp only [markedLines, same, Bool.toNat_true]
  · rw [other .b (by simp [line])]
    omega
  · rw [other .a (by simp [line])]
    omega

/-! ## A PICK admitted (R70) -/

/-- R70: the queue after a PICK is posted. -/
def placePick (q : List QueueEntry) (p : Pick) : List QueueEntry := if q.length ≤ 253 then q ++ [.pick p] else q

theorem State.postPick_eq (s : State) (p : Pick) : s.postPick p =
    if s.pickQueue.length ≤ 253 then { s with pickQueue := s.pickQueue ++ [.pick p] }
    else s.report .pickOverflow (byte p.station.val) := rfl

theorem State.postPick_pickQueue (s : State) (p : Pick) : (s.postPick p).pickQueue = placePick s.pickQueue p := by
  rw [State.postPick_eq, placePick]
  split_ifs
  · rfl
  · exact State.report_pickQueue _ _ _

theorem State.postPicks_pickQueue : ∀ (ps : List Pick) (s : State),
    (s.postPicks ps).pickQueue = ps.foldl placePick s.pickQueue
  | [], _ => rfl
  | p :: ps, s => by
    rw [State.postPicks, List.foldl_cons, ← State.postPicks, State.postPicks_pickQueue ps, s.postPick_pickQueue,
      List.foldl_cons]

/-- The queue between the PICKs of a line's instant and the LINE MARK that follows them: the other line still ends in
a LINE MARK, and a line that no longer does has given up its place beyond the 254th. -/
def postingOk (l : Line) (q : List QueueEntry) : Prop :=
  (∀ k, l ≠ k → endsInMark q k) ∧ q.length ≤ 254 + markedLines q

theorem pickQueueOk.posting {q : List QueueEntry} (ok : pickQueueOk q) (l : Line) : postingOk l q := by
  obtain ⟨ends, bound⟩ := (pickQueueOk_iff q).mp ok
  exact ⟨fun k _ => ends k, bound⟩

theorem postingOk.placePick {l : Line} {q : List QueueEntry} {p : Pick} (ok : postingOk l q)
    (own : lineOf p.station = l) : postingOk l (placePick q p) := by
  rw [Machine.placePick]
  split_ifs with room
  · refine ⟨fun k other => ?_, ?_⟩
    · have kept : lastOf (q ++ [.pick p]) k = lastOf q k := by
        simp [lastOf_append, lastOf_singleton, QueueEntry.line, own, other]
      rw [endsInMark, kept]
      exact ok.1 k other
    · rw [List.length_append, List.length_singleton]
      omega
  · exact ok

theorem postingOk.placePicks {l : Line} : ∀ (ps : List Pick) (q : List QueueEntry), postingOk l q →
    (∀ p ∈ ps, lineOf p.station = l) → postingOk l (ps.foldl Machine.placePick q)
  | [], _, ok, _ => ok
  | p :: ps, _, ok, own =>
    placePicks ps _ (ok.placePick (own p List.mem_cons_self)) fun x mem => own x (List.mem_cons_of_mem p mem)

/-- The LINE MARK that follows the PICKs of its line restores the queue's form. -/
theorem postingOk.placeMark {q : List QueueEntry} {m : LineMark} (ok : postingOk m.line q) :
    pickQueueOk (placeMark q m) := by
  obtain ⟨others, bound⟩ := ok
  refine (pickQueueOk_iff _).mpr ⟨fun l e last => ?_, ?_⟩
  · by_cases own : m.line = l
    · subst own
      simpa [markEnds, last] using markEnds_placeMark_same q m
    · exact others l own e (lastOf_placeMark_other q m own ▸ last)
  · have grown := placeMark_length_le q m
    omega

/-! ## The oldest entry taken (R71) -/

theorem endsInMark.of_cons {e : QueueEntry} {q : List QueueEntry} {l : Line} (ends : endsInMark (e :: q) l) :
    endsInMark q l :=
  fun x last => ends x (by rw [lastOf_cons, last, Option.some_or])

theorem linesPresent_cons_le (e : QueueEntry) (q : List QueueEntry) :
    linesPresent (e :: q) ≤ linesPresent q + 1 := by
  cases line : e.line <;> simp only [linesPresent, lastOf_cons, line, reduceCtorEq, ↓reduceIte, Option.or_none]
  · have := Bool.toNat_le ((lastOf q .a).or (some e)).isSome
    omega
  · have := Bool.toNat_le ((lastOf q .b).or (some e)).isSome
    omega

theorem pickQueueOk.tail {q : List QueueEntry} (ok : pickQueueOk q) : pickQueueOk q.tail := by
  cases q with
  | nil => exact ok
  | cons e q =>
    obtain ⟨endsA, endsB, bound⟩ := ok
    have present := linesPresent_cons_le e q
    rw [List.length_cons] at bound
    refine ⟨endsA.of_cons, endsB.of_cons, ?_⟩
    rw [List.tail_cons]
    omega

theorem pickQueueOk_nil : pickQueueOk [] := by simp [pickQueueOk, endsInMark]

/-! ## The bound (R70) -/

/-- Each entry is a PICK or a LINE MARK of one of the two lines. -/
theorem length_eq_picks_and_marks : ∀ q : List QueueEntry,
    q.length = q.countP QueueEntry.isPick + q.countP (QueueEntry.isMarkOf .a) + q.countP (QueueEntry.isMarkOf .b)
  | [] => rfl
  | .pick p :: q => by
    have ih := length_eq_picks_and_marks q
    simp only [List.length_cons, List.countP_cons, QueueEntry.isPick, QueueEntry.isMarkOf, ↓reduceIte,
      Bool.false_eq_true]
    omega
  | .mark m :: q => by
    have ih := length_eq_picks_and_marks q
    cases line : m.line <;>
      simp only [List.length_cons, List.countP_cons, QueueEntry.isPick, QueueEntry.isMarkOf, ↓reduceIte,
        Bool.false_eq_true, line, reduceCtorEq, decide_true, decide_false] <;> omega

theorem markEnds_le_countP (q : List QueueEntry) (l : Line) :
    (markEnds q l).toNat ≤ q.countP (QueueEntry.isMarkOf l) := by
  cases ends : markEnds q l with
  | false => exact Nat.zero_le _
  | true =>
    obtain ⟨e, last, mark⟩ := (Option.any_eq_true _ _).mp ends
    exact List.countP_pos_iff.mpr ⟨e, (mem_of_lastOf last).1, mark⟩

theorem pickQueueOk.bounds {q : List QueueEntry} (ok : pickQueueOk q) :
    q.length ≤ 256 ∧ q.countP QueueEntry.isPick ≤ 254 := by
  obtain ⟨-, bound⟩ := (pickQueueOk_iff q).mp ok
  have total := length_eq_picks_and_marks q
  have marksA := markEnds_le_countP q .a
  have marksB := markEnds_le_countP q .b
  have atMostA := Bool.toNat_le (markEnds q .a)
  have atMostB := Bool.toNat_le (markEnds q .b)
  rw [markedLines] at bound
  omega

/-! ## What one step can make of the queue -/

/-- What one step can make of the pick queue: nothing; a reset empties it; the associator takes the oldest entry; and
the detector bank posts PICKs of one line and then a LINE MARK of that line (R68). -/
inductive QueueChange (q : List QueueEntry) : List QueueEntry → Prop
  | same : QueueChange q q
  | emptied : QueueChange q []
  | taken : QueueChange q q.tail
  | posted (picks : List Pick) (m : LineMark) (own : ∀ p ∈ picks, lineOf p.station = m.line) :
    QueueChange q (placeMark (picks.foldl placePick q) m)

theorem QueueChange.keeps_ok {q q' : List QueueEntry} (change : QueueChange q q') (ok : pickQueueOk q) :
    pickQueueOk q' := by
  cases change with
  | same => exact ok
  | emptied => exact pickQueueOk_nil
  | taken => exact ok.tail
  | posted picks m own => exact (postingOk.placePicks picks q (ok.posting m.line) own).placeMark

theorem QueueChange.of_eq {q q' : List QueueEntry} (same : q' = q) : QueueChange q q' := same ▸ .same

end Sys2Proof.Machine
end

section
/-! PROOFS. What each block's operations leave of the pick queue, and what each command makes of it (chapter 5). -/

namespace Sys2Proof.Machine

/-! ## The line ports -/

@[simp] theorem State.lineNotice_pickQueue (s : State) (l : Line) (cause : LineCause) (i : Option Index) :
    (s.lineNotice l cause i).pickQueue = s.pickQueue := State.request_pickQueue _ _

@[simp] theorem State.offerPass_pickQueue (s : State) (l : Line) (f : RxFrame) :
    (s.offerPass l f).pickQueue = s.pickQueue := by
  unfold State.offerPass
  split_ifs <;> simp

@[simp] theorem State.lineLeave_pickQueue (s : State) (l : Line) : (s.lineLeave l).pickQueue = s.pickQueue := rfl

@[simp] theorem State.actMarker_pickQueue (s : State) (l : Line) (f : SampleFrame) :
    (s.actMarker l f).pickQueue = s.pickQueue := by
  unfold State.actMarker
  split_ifs <;> simp

@[simp] theorem State.bufferFrame_pickQueue (s : State) (l : Line) (f : SampleFrame) (fill : Nat) :
    (s.bufferFrame l f fill).pickQueue = s.pickQueue := by
  simp only [State.bufferFrame]
  split_ifs <;> simp

@[simp] theorem State.startSync_pickQueue (s : State) (l : Line) (i : Index) :
    (s.startSync l i).pickQueue = s.pickQueue := rfl

@[simp] theorem State.frameInDown_pickQueue (s : State) (l : Line) (f : SampleFrame) :
    (s.frameInDown l f).pickQueue = s.pickQueue := by
  simp [State.frameInDown]

@[simp] theorem State.frameInSync_pickQueue (s : State) (l : Line) (f : SampleFrame) :
    (s.frameInSync l f).pickQueue = s.pickQueue := by
  simp only [State.frameInSync]
  split_ifs <;> simp

@[simp] theorem State.frameInLive_pickQueue (s : State) (l : Line) (f : SampleFrame) :
    (s.frameInLive l f).pickQueue = s.pickQueue := by
  simp only [State.frameInLive]
  split
  · simp
  · simp
  · split_ifs <;> simp

@[simp] theorem State.acceptSample_pickQueue (s : State) (l : Line) (f : SampleFrame) :
    (s.acceptSample l f).pickQueue = s.pickQueue := by
  simp only [State.acceptSample, State.restartSilence_eq]
  split <;> simp

@[simp] theorem State.lineFrame_pickQueue (s : State) (l : Line) (f : RxFrame) :
    (s.lineFrame l f).pickQueue = s.pickQueue := by
  unfold State.lineFrame
  split_ifs
  · split <;> simp
  · simp
  · rfl

@[simp] theorem State.queueField_pickQueue (s : State) (l : Line) (f : InnerFrame) :
    (s.queueField l f).pickQueue = s.pickQueue := by
  simp only [State.queueField]
  split_ifs <;> simp

/-! ## The detector bank -/

/-- R54: a pick names the station whose detector made it. -/
theorem onsetStep_pick_station {inp : DetectorInput} {r : Nat} {x : StationState} {p : Pick}
    (made : (onsetStep inp r x).pick = some p) : p.station = inp.station := by
  simp only [onsetStep] at made
  split_ifs at made
  exact Option.some.inj made ▸ rfl

theorem pendingStep_pick_station {inp : DetectorInput} {met : Bool} {r : Nat} {x : StationState} {p : Pick}
    (made : (pendingStep inp met r x).pick = some p) : p.station = inp.station := by
  simp only [pendingStep] at made
  split_ifs at made
  exact Option.some.inj made ▸ rfl

theorem onStep_pick (inp : DetectorInput) (off : Bool) (x : StationState) : (onStep inp off x).pick = none := by
  simp only [onStep]
  split_ifs <;> rfl

theorem holdStep_pick (x : StationState) : (holdStep x).pick = none := by
  unfold holdStep
  split_ifs <;> rfl

theorem transitionStep_pick_station {inp : DetectorInput} {x : StationState} {p : Pick}
    (made : (transitionStep inp x).pick = some p) : p.station = inp.station := by
  cases state : x.det <;> simp only [transitionStep, state, onStep_pick, holdStep_pick, reduceCtorEq] at made
  case warmup => split_ifs at made
  case armed =>
    split_ifs at made
    exact onsetStep_pick_station made
  case pending => exact pendingStep_pick_station made

theorem detectorWork_pick_station {inp : DetectorInput} {x : StationState} {p : Pick}
    (made : (detectorWork inp x).pick = some p) : p.station = inp.station := by
  unfold detectorWork at made
  split at made
  · cases made
  · exact transitionStep_pick_station made

/-- R68: the picks of an instant are of the instant's line. -/
theorem State.lineOf_of_mem_picksOf {s : State} {n : Instant} {p : Pick} (mem : p ∈ s.picksOf n) :
    lineOf p.station = n.line := by
  obtain ⟨i, own, made⟩ := List.mem_filterMap.mp mem
  have station : p.station = i := detectorWork_pick_station made
  exact station ▸ (mem_stationsOf n.line i).mp own

theorem State.takeWhole_pickQueue (s : State) (n : Instant) : (s.takeWhole n).pickQueue =
    placeMark ((s.picksOf n).foldl placePick s.pickQueue) ⟨n.line, true, some n.index, false⟩ := by
  rw [State.takeWhole_eq]
  simp only [State.postMark, State.postPicks_pickQueue, State.setBankLine_pickQueue, State.mapStations_pickQueue,
    State.worked_pickQueue]

theorem State.takeWhole_queueChange (s : State) (n : Instant) :
    QueueChange s.pickQueue (s.takeWhole n).pickQueue := by
  rw [State.takeWhole_pickQueue]
  exact .posted _ _ fun _ mem => State.lineOf_of_mem_picksOf mem

theorem State.takeWith_queueChange (s : State) (i : Station) (t : Transition) :
    QueueChange s.pickQueue (s.takeWith i t).pickQueue := by
  unfold State.takeWith
  split
  · split_ifs
    · exact s.takeWhole_queueChange _
    · exact .same
  · exact .same

@[simp] theorem State.entryEvent_pickQueue (s : State) (p : Fin 32) (st : Station) (f : StationEntry → StationEntry) :
    (s.entryEvent p st f).pickQueue = s.pickQueue :=
  (congrArg State.pickQueue (s.entryEvent_untouched p st f) :)

@[simp] theorem State.loseStation_pickQueue (s : State) (st : Station) :
    (s.loseStation st).pickQueue = s.pickQueue := by
  rw [State.loseStation]
  exact foldl_keeps State.pickQueue (fun t p => t.entryEvent_pickQueue p st _) _ _

/-- R57: a line-leave posts one LINE MARK and no PICK. -/
theorem State.performLeave_queueChange (s : State) (l : Line) :
    QueueChange s.pickQueue (s.performLeave l).pickQueue := by
  have lost : ∀ (is : List Station) (t : State), (is.foldl State.loseStation t).pickQueue = t.pickQueue :=
    foldl_keeps State.pickQueue State.loseStation_pickQueue
  have posted : ∃ progress,
      (s.performLeave l).pickQueue = placeMark s.pickQueue ⟨l, false, progress, true⟩ := by
    simp only [State.performLeave, State.postMark, lost]
    split_ifs <;> exact ⟨_, rfl⟩
  obtain ⟨progress, posted⟩ := posted
  rw [posted]
  exact .posted [] _ (by simp)

/-! ## The associator -/

@[simp] theorem State.joinCandidate_pickQueue (s : State) (k : Fin 16) (c : Candidate) (p : Pick) :
    (s.joinCandidate k c p).pickQueue = s.pickQueue := by
  simp only [State.joinCandidate]
  split
  · simp
  · split_ifs <;> simp

@[simp] theorem State.openCandidate_pickQueue (s : State) (p : Pick) :
    (s.openCandidate p).pickQueue = s.pickQueue := by
  unfold State.openCandidate
  split
  · simp
  · rfl

@[simp] theorem State.closeCandidate_pickQueue (s : State) (switchClosed : Bool) (k : Fin 16) (c : Candidate) :
    (s.closeCandidate switchClosed k c).pickQueue = s.pickQueue := by
  unfold State.closeCandidate
  split <;> simp

@[simp] theorem State.closeWhere_pickQueue (switchClosed : Bool) (test : Candidate → Bool) :
    ∀ (fuel : Nat) (s : State), (s.closeWhere switchClosed test fuel).pickQueue = s.pickQueue
  | 0, _ => rfl
  | fuel + 1, s => by
    rw [State.closeWhere]
    split
    · rfl
    · rw [State.closeWhere_pickQueue switchClosed test fuel, State.closeCandidate_pickQueue]

@[simp] theorem State.assocSwitchFor_pickQueue (s : State) (e : QueueEntry) :
    (s.assocSwitchFor e).pickQueue = s.pickQueue := by
  unfold State.assocSwitchFor State.assocSwitch
  split_ifs <;> simp

@[simp] theorem State.handlePick_pickQueue (s : State) (p : Pick) : (s.handlePick p).pickQueue = s.pickQueue := by
  unfold State.handlePick
  split_ifs
  · split <;> simp
  · rfl

@[simp] theorem State.viewStep_pickQueue (s : State) (l : Line) (v : LineView) :
    (s.viewStep l v).pickQueue = s.pickQueue := by
  simp only [State.viewStep]
  split_ifs
  · rfl
  · split <;> simp

@[simp] theorem State.handleMark_pickQueue (s : State) (m : LineMark) : (s.handleMark m).pickQueue = s.pickQueue := by
  unfold State.handleMark
  split_ifs <;> simp

@[simp] theorem State.dropEntry_pickQueue (s : State) : s.dropEntry.pickQueue = s.pickQueue.tail := rfl

/-! ## The capture engine -/

@[simp] theorem State.freeRecord_pickQueue (s : State) (p : Fin 32) : (s.freeRecord p).pickQueue = s.pickQueue := by
  unfold State.freeRecord
  split <;> rfl

@[simp] theorem State.obtainPlace_pickQueue (s : State) : s.obtainPlace.state.pickQueue = s.pickQueue := by
  unfold State.obtainPlace
  split
  · rfl
  · split
    · rfl
    · split <;> simp

@[simp] theorem State.makeRoom_pickQueue (need : Nat) : ∀ (fuel : Nat) (s : State),
    (s.makeRoom need fuel).state.pickQueue = s.pickQueue
  | 0, _ => rfl
  | fuel + 1, s => by
    rw [State.makeRoom]
    split_ifs
    · rfl
    · split
      · rfl
      · split
        · rfl
        · exact (State.makeRoom_pickQueue need fuel _).trans (s.freeRecord_pickQueue _)

@[simp] theorem State.createRecord_pickQueue (s : State) (p : Fin 32) (m : DeclareMsg) :
    (s.createRecord p m).pickQueue = s.pickQueue := rfl

@[simp] theorem State.placeCapture_pickQueue (s : State) (p : Fin 32) (m : DeclareMsg) (is : List Station) :
    (s.placeCapture p m is).pickQueue = s.pickQueue := by
  unfold State.placeCapture
  split <;> rfl

@[simp] theorem State.markAbsent_pickQueue (s : State) (p : Fin 32) : (s.markAbsent p).pickQueue = s.pickQueue := by
  unfold State.markAbsent
  split <;> simp

@[simp] theorem State.planCapture_pickQueue (s : State) (p : Fin 32) (m : DeclareMsg) :
    (s.planCapture p m).1.pickQueue = s.pickQueue := by
  simp only [State.planCapture]
  split_ifs <;> simp

@[simp] theorem State.declareAt_pickQueue (s : State) (p : Fin 32) (m : DeclareMsg) (recycled : List Nat) :
    (s.declareAt p m recycled).pickQueue = s.pickQueue := by
  simp only [State.declareAt]
  split <;> split_ifs <;> simp

@[simp] theorem State.leaveUnrecorded_pickQueue (s : State) (m : DeclareMsg) :
    (s.leaveUnrecorded m).pickQueue = s.pickQueue := by
  simp [State.leaveUnrecorded]

@[simp] theorem State.handleDeclare_pickQueue (s : State) (m : DeclareMsg) :
    (s.handleDeclare m).pickQueue = s.pickQueue := by
  simp only [State.handleDeclare]
  split <;> simp

@[simp] theorem State.closeRecord_pickQueue (s : State) (p : Fin 32) (r : Record) (m : CloseMsg) :
    (s.closeRecord p r m).pickQueue = s.pickQueue := by
  simp only [State.closeRecord]
  split_ifs <;> simp

@[simp] theorem State.closeUnrecorded_pickQueue (s : State) (m : CloseMsg) :
    (s.closeUnrecorded m).pickQueue = s.pickQueue := by
  unfold State.closeUnrecorded
  split <;> simp

@[simp] theorem State.handleClose_pickQueue (s : State) (m : CloseMsg) :
    (s.handleClose m).pickQueue = s.pickQueue := by
  simp only [State.handleClose]
  split
  · rfl
  · simp
  · split <;> simp

@[simp] theorem State.bulkReadAt_pickQueue (s : State) (p : Fin 32) (st : Station) :
    (s.bulkReadAt p st).pickQueue = s.pickQueue := by
  unfold State.bulkReadAt
  split
  · rfl
  · split
    · split_ifs
      · rfl
      · exact State.entryEvent_pickQueue _ _ _ _
    · rfl

/-! ## The unit controller -/

@[simp] theorem State.answer_pickQueue (s : State) (c : Command) (k : Completion) (rs : List Byte) :
    (s.answer c k rs).pickQueue = s.pickQueue := by
  unfold State.answer
  split_ifs <;> rfl

/-- R149: a refused length changes no more of the pick queue than the command. -/
theorem State.withLength_pickQueue {s t : State} (c : Command) (n : Nat) (kept : t.pickQueue = s.pickQueue) :
    (s.withLength c n t).pickQueue = s.pickQueue := by
  unfold State.withLength
  split_ifs
  · exact kept
  · simp

theorem State.onRange_pickQueue {s : State} (c : Command) {run : Nat → Nat → State}
    (kept : ∀ first last, (run first last).pickQueue = s.pickQueue) : (s.onRange c run).pickQueue = s.pickQueue := by
  refine State.withLength_pickQueue c 2 ?_
  split_ifs
  · exact kept _ _
  · simp

@[simp] theorem State.loadInto_pickQueue (s : State) (c : Command) (t : TableId) :
    (s.loadInto c t).pickQueue = s.pickQueue := by
  simp only [State.loadInto]
  split_ifs <;> simp

@[simp] theorem State.reportTable_pickQueue (s : State) (c : Command) :
    (s.reportTable c).pickQueue = s.pickQueue := by
  unfold State.reportTable
  split
  · split_ifs <;> simp
  · simp

@[simp] theorem State.scheduleLine_pickQueue (s : State) (l : Line) (p : SwitchPoint) :
    (s.scheduleLine l p).pickQueue = s.pickQueue := by
  simp only [State.scheduleLine]
  split_ifs <;> rfl

@[simp] theorem State.schedule_pickQueue (s : State) (p : SwitchPoint) : (s.schedule p).pickQueue = s.pickQueue := by
  simp [State.schedule]

@[simp] theorem State.completeSwitch_pickQueue (s : State) : s.completeSwitch.pickQueue = s.pickQueue := by
  simp [State.completeSwitch]

@[simp] theorem State.takeReport_pickQueue (s : State) (r : SwitchReport) :
    (s.takeReport r).pickQueue = s.pickQueue := by
  simp only [State.takeReport]
  split_ifs <;> simp

/-! ## The readout unit -/

@[simp] theorem State.stageEnd_pickQueue (s : State) : s.stageEnd.pickQueue = s.pickQueue := rfl

@[simp] theorem State.startReadout_pickQueue (s : State) (p : Fin 32) (r : Record) (sel : Selection) :
    (s.startReadout p r sel).pickQueue = s.pickQueue := rfl

@[simp] theorem State.fetchRecord_pickQueue (s : State) (c : Command) (p : Fin 32) (r : Record) (sel : Selection) :
    (s.fetchRecord c p r sel).pickQueue = s.pickQueue := by
  unfold State.fetchRecord
  split_ifs <;> simp

@[simp] theorem State.cancelReadout_pickQueue (s : State) : s.cancelReadout.pickQueue = s.pickQueue := by
  unfold State.cancelReadout
  split_ifs <;> rfl

@[simp] theorem State.releaseReading_pickQueue (s : State) (p : Fin 32) :
    (s.releaseReading p).pickQueue = s.pickQueue := by
  simp [State.releaseReading]

@[simp] theorem State.releaseRecord_pickQueue (s : State) (c : Command) (p : Fin 32) (r : Record) :
    (s.releaseRecord c p r).pickQueue = s.pickQueue := by
  unfold State.releaseRecord
  split <;> simp

@[simp] theorem State.endReadout_pickQueue (s : State) : s.endReadout.pickQueue = s.pickQueue := by
  simp only [State.endReadout]
  split
  · rfl
  · split <;> rfl

theorem State.stageCapture_pickQueue {s t : State} {st : Station} (staged : s.stageCapture st = .next t) :
    t.pickQueue = s.pickQueue := by
  unfold State.stageCapture at staged
  split at staged
  · cases staged
  · split at staged <;> cases staged
    rfl

/-! ## The trunk port -/

@[simp] theorem State.offerCommand_pickQueue (s : State) (c : Command) :
    (s.offerCommand c).pickQueue = s.pickQueue := by
  unfold State.offerCommand
  split_ifs <;> simp

@[simp] theorem State.unitCommand_pickQueue (s : State) (payload : List Byte) :
    (s.unitCommand payload).pickQueue = s.pickQueue := by
  unfold State.unitCommand
  split
  · split_ifs <;> simp
  · rfl

@[simp] theorem State.fieldCommand_pickQueue (s : State) (payload : List Byte) :
    (s.fieldCommand payload).pickQueue = s.pickQueue := by
  unfold State.fieldCommand
  split
  · split_ifs <;> simp
  · rfl

@[simp] theorem State.downlinkFrame_pickQueue (s : State) (f : RxFrame) :
    (s.downlinkFrame f).pickQueue = s.pickQueue := by
  unfold State.downlinkFrame
  split_ifs <;> simp

@[simp] theorem State.arbiterTake_pickQueue (s : State) : s.arbiterTake.pickQueue = s.pickQueue := by
  unfold State.arbiterTake
  split
  · simp
  · split
    · simp
    · split
      · simp
      · split <;> simp

/-! ## The commands -/

/-- R162: while RSTn is asserted the step does not happen. -/
theorem State.whileReleased_queueChange {s t u : State} (next : s.whileReleased u = .next t)
    (change : QueueChange s.pickQueue u.pickQueue) : QueueChange s.pickQueue t.pickQueue := by
  unfold State.whileReleased at next
  cases next
  split_ifs
  · exact change
  · exact .same

theorem State.whileReleased_keeps {s t u : State} (next : s.whileReleased u = .next t)
    (kept : u.pickQueue = s.pickQueue) : QueueChange s.pickQueue t.pickQueue :=
  State.whileReleased_queueChange next (.of_eq kept)

/-- R148: a row that takes a command makes of the pick queue what its execution makes of it. -/
theorem State.takeCommand_queueChange {s t : State} {mine : Command → Bool} {run : Command → State → State}
    (next : s.takeCommand mine run = .next t)
    (change : ∀ c u, QueueChange u.pickQueue (run c u).pickQueue) : QueueChange s.pickQueue t.pickQueue := by
  obtain rfl | ⟨c, -, -, rfl⟩ := State.takeCommand_cases next
  · exact .same
  · exact s.dropCommand_pickQueue ▸ change c s.dropCommand

theorem State.takeCommand_keeps {s t : State} {mine : Command → Bool} {run : Command → State → State}
    (next : s.takeCommand mine run = .next t) (kept : ∀ c u, (run c u).pickQueue = u.pickQueue) :
    QueueChange s.pickQueue t.pickQueue :=
  State.takeCommand_queueChange next fun c u => .of_eq (kept c u)

theorem execTransition_queueChange {n : Nat} {tr : Transition} {s t : State}
    (next : execTransition n tr s = .next t) : QueueChange s.pickQueue t.pickQueue := by
  unfold execTransition at next
  split at next
  · exact State.whileReleased_queueChange next (s.takeWith_queueChange _ tr)
  · cases next

theorem execBulkCopyRead_queueChange {place station : Nat} {s t : State}
    (next : execBulkCopyRead place station s = .next t) : QueueChange s.pickQueue t.pickQueue := by
  unfold execBulkCopyRead at next
  split at next
  · exact State.whileReleased_keeps next (s.bulkReadAt_pickQueue _ _)
  · cases next

theorem execStageDataFrame_keeps {s t : State} (next : execStageDataFrame s = .next t) :
    t.pickQueue = s.pickQueue := by
  unfold execStageDataFrame at next
  split at next
  · split at next
    · split at next
      · cases next
        exact s.stageEnd_pickQueue
      · exact State.stageCapture_pickQueue next
    · cases next
      exact s.stageEnd_pickQueue
  · cases next
    rfl

theorem execRstnReleased_queueChange {straps : Nat} {s t : State} (next : execRstnReleased straps s = .next t) :
    QueueChange s.pickQueue t.pickQueue := by
  unfold execRstnReleased at next
  split at next <;> cases next
  split_ifs
  · exact .same
  · exact .emptied

/-- What each command can make of the pick queue. -/
theorem exec_queueChange {i : Instr} {s t : State} (next : exec i s = .next t) :
    QueueChange s.pickQueue t.pickQueue := by
  unfold exec at next
  cases i with
  | lineFrameReceived line bytes =>
    refine State.whileReleased_keeps next ?_
    split <;> simp
  | silenceTimerExpiry line =>
    refine State.whileReleased_keeps next ?_
    split_ifs
    · rfl
    · split <;> simp
  | fieldCommandTxStart line =>
    refine State.whileReleased_keeps next ?_
    split <;> rfl
  | fieldCommandTxDone line =>
    refine State.whileReleased_keeps next ?_
    split <;> rfl
  | takeInstant =>
    refine State.whileReleased_queueChange next ?_
    split
    · exact s.takeWhole_queueChange _
    · exact .same
  | warmupEnd station => exact execTransition_queueChange next
  | debounceComplete station => exact execTransition_queueChange next
  | onMaxDuration station => exact execTransition_queueChange next
  | holdEnd station => exact execTransition_queueChange next
  | detectorLineLeave line =>
    refine State.whileReleased_queueChange next ?_
    split_ifs
    · exact .same
    · exact s.performLeave_queueChange line
  | associatorTakePick =>
    refine State.whileReleased_queueChange next ?_
    split
    · simpa using .taken
    · exact .same
  | associatorTakeLineMark =>
    refine State.whileReleased_queueChange next ?_
    split
    · simpa using .taken
    · exact .same
  | declareMessageTaken =>
    refine State.whileReleased_keeps next ?_
    split <;> simp
  | bulkCopyRead place station => exact execBulkCopyRead_queueChange next
  | closeMessageTaken =>
    refine State.whileReleased_keeps next ?_
    split <;> simp
  | downlinkFrameReceived bytes =>
    refine State.whileReleased_keeps next ?_
    split <;> simp
  | arbiterChoice =>
    refine State.whileReleased_keeps next ?_
    split_ifs <;> simp
  | uplinkTxDone => exact State.whileReleased_keeps next rfl
  | stageDataFrame => exact .of_eq (execStageDataFrame_keeps next)
  | identify =>
    exact State.takeCommand_keeps next fun c u => State.withLength_pickQueue c 0 (by simp)
  | readStatus =>
    exact State.takeCommand_keeps next fun c u => State.withLength_pickQueue c 0 (by simp)
  | readStationStatus =>
    exact State.takeCommand_keeps next fun c u => State.onRange_pickQueue c (by simp)
  | writeSettings =>
    exact State.takeCommand_keeps next fun c u => State.withLength_pickQueue c 6 (by simp)
  | readSettings =>
    exact State.takeCommand_keeps next fun c u => State.withLength_pickQueue c 0 (by simp)
  | loadTable =>
    refine State.takeCommand_keeps next fun c u => ?_
    split_ifs
    · simp
    · split <;> simp
  | readTable =>
    exact State.takeCommand_keeps next fun c u => State.withLength_pickQueue c 4 (by simp)
  | copyBank =>
    refine State.takeCommand_keeps next fun c u => State.withLength_pickQueue c 0 ?_
    split_ifs <;> simp
  | switchBank =>
    refine State.takeCommand_keeps next fun c u => State.withLength_pickQueue c 5 ?_
    split
    · simp
    · split_ifs <;> simp
  | cancelSwitch =>
    refine State.takeCommand_keeps next fun c u => State.withLength_pickQueue c 0 ?_
    split_ifs <;> simp
  | switchedReport block =>
    refine State.whileReleased_keeps next ?_
    split <;> simp
  | restartDetectors =>
    exact State.takeCommand_keeps next fun c u => State.onRange_pickQueue c (by simp)
  | listEvents =>
    exact State.takeCommand_keeps next fun c u => State.withLength_pickQueue c 0 (by simp)
  | readEvent =>
    refine State.takeCommand_keeps next fun c u => State.withLength_pickQueue c 2 ?_
    split <;> simp
  | fetch =>
    refine State.takeCommand_keeps next fun c u => State.withLength_pickQueue c 3 ?_
    split
    · simp
    · split
      · simp
      · split <;> simp
  | cancelReadout =>
    refine State.takeCommand_keeps next fun c u => State.withLength_pickQueue c 0 ?_
    split_ifs <;> simp
  | release =>
    refine State.takeCommand_keeps next fun c u => State.withLength_pickQueue c 2 ?_
    split
    · simp
    · split <;> simp
  | unknownCommand => exact State.takeCommand_keeps next (by simp)
  | resetEngine => exact State.takeCommand_queueChange next fun _ _ => .emptied
  | resetFull => exact State.takeCommand_queueChange next fun _ _ => .emptied
  | rstnAsserted =>
    cases next
    exact .emptied
  | rstnReleased straps => exact execRstnReleased_queueChange next
  | trdyAsserted =>
    cases next
    exact .same
  | trdyWithdrawn =>
    cases next
    exact .same
  | reset =>
    exact State.takeCommand_keeps next fun c u => State.withLength_pickQueue c 1 (by simp)

theorem step_queueChange {s t : State} (next : step s = .next t) : QueueChange s.pickQueue t.pickQueue := by
  unfold step at next
  split at next
  · cases next
    exact .of_eq s.idle_pickQueue
  · exact s.dropPending_pickQueue ▸ exec_queueChange next

/-- Settles O29: one step makes of the queue one of the four changes of `QueueChange`, each of which keeps the queue's
form, and the form bounds the queue. -/
theorem pickQueueNeverOverflows : Obligations.PickQueueNeverOverflows :=
  ⟨State.postPick_eq, mark_mem_placeMark, fun _ _ ok next => (step_queueChange next).keeps_ok ok,
    fun _ ok => ok.bounds⟩

end Sys2Proof.Machine
end

section
/-! PROOFS. The moveout that a neighbour list gives a station, and the admission of a pick (chapter 6). -/

namespace Sys2Proof.Machine

/-! ## The moveout of a station in a neighbour list (R76) -/

@[simp] theorem moveoutOf_nil (j : Station) : moveoutOf [] j = none := rfl

@[simp] theorem moveoutOf_cons_same (j : Station) (m : Nat) (ns : List Neighbour) :
    moveoutOf (⟨j, m⟩ :: ns) j = some m := by
  simp [moveoutOf]

theorem moveoutOf_cons_other {x : Neighbour} {j : Station} (other : x.station ≠ j) (ns : List Neighbour) :
    moveoutOf (x :: ns) j = moveoutOf ns j := by
  simp [moveoutOf, other]

/-- R75, R76: in a list that names no station twice, the first entry found for a station is its only one. -/
theorem moveoutOf_eq_some_iff {ns : List Neighbour} (j : Station) (m : Nat)
    (distinct : (ns.map Neighbour.station).Nodup) : moveoutOf ns j = some m ↔ (⟨j, m⟩ : Neighbour) ∈ ns := by
  induction ns with
  | nil => simp
  | cons x ns ih =>
    obtain ⟨unnamed, restDistinct⟩ := List.nodup_cons.mp distinct
    by_cases same : x.station = j
    · obtain ⟨k, moveout⟩ := x
      obtain rfl : k = j := same
      have notLater : (⟨k, m⟩ : Neighbour) ∉ ns := fun later => unnamed (List.mem_map.mpr ⟨_, later, rfl⟩)
      simp [notLater, eq_comm]
    · have notFirst : (⟨j, m⟩ : Neighbour) ≠ x := fun first => same (first ▸ rfl)
      simp [moveoutOf_cons_other same, ih restDistinct, notFirst]

/-! ## Admission (R84) -/

/-- R84: the three conditions; a station without a moveout in the anchor's list fails the second. -/
theorem Candidate.admits_iff (c : Candidate) (bank : Bank) (j : Station) (t : Index) :
    c.admits bank j t = true ↔
      (∀ p ∈ c.picks, p.station ≠ j) ∧
      (∃ m, moveoutOf (bank.neighbourList c.anchor) j = some m ∧ serialDistance t c.t0 ≤ m) ∧
      precedes c.deadline t = false := by
  cases found : moveoutOf (bank.neighbourList c.anchor) j with
  | none => simp [Candidate.admits, found]
  | some m => simp [Candidate.admits, found, and_assoc]

/-- Settles O31: the moveout found is that of the station's one entry, and the test of admission is the conjunction of
the three conditions, with the serial distance of R66 written out. -/
theorem admissionConditions : Obligations.AdmissionConditions :=
  ⟨fun _ j m distinct => moveoutOf_eq_some_iff j m distinct, Candidate.admits_iff⟩

end Sys2Proof.Machine
end

section
/-! PROOFS. A CLOSE message taken by the capture engine (chapter 7): the map entry read and cleared, and what the
entry makes of the message. -/

namespace Sys2Proof.Machine

/-! ## The earliest onset of a pick list (R66, R119) -/

theorem earliestOnset_cons (q : Pick) (qs : List Pick) (dflt : Index) :
    earliestOnset (q :: qs) dflt =
      qs.foldl (fun (x : Index) (y : Pick) => if precedes y.onset x then y.onset else x) q.onset := by
  rw [earliestOnset, earliestOf, List.foldl_map]

/-! ## The record completed (R119) -/

/-- R119, R121: the requests of a record's CLOSE, in turn: EVENT CLOSED, and EVENT READY when no entry waits. -/
def Record.closeNotices (r : Record) (m : CloseMsg) : List Notice :=
  .eventClosed r.number false m.switchClosed r.anchor r.t0 (r.closed m).earliest m.picks.length m.weight
      (some (r.closed m).state) ::
    if r.allComplete then [r.readyNotice] else []

/-- R119: the record is replaced, and then its notices are requested. -/
theorem State.closeRecord_eq (s : State) (p : Fin 32) (r : Record) (m : CloseMsg) :
    s.closeRecord p r m = (s.setRecord p (some (r.closed m))).requestAll (r.closeNotices m) := by
  cases complete : r.allComplete
  case true =>
    have ready : (r.closed m).state = .ready := if_pos complete
    rw [State.closeRecord, if_pos ready, Record.closeNotices, if_pos complete]
    rfl
  case false =>
    have filling : (r.closed m).state = .filling := by simp [Record.closed, complete]
    rw [State.closeRecord, if_neg (by simp [filling]), Record.closeNotices, if_neg (by simp [complete])]
    rfl

/-! ## The map entry (R104) -/

/-- R104: map entry `k` becomes none. -/
def State.clearMapEntry (s : State) (k : Fin 16) : State :=
  { s with capture := { s.capture with map := s.capture.map.set k .empty } }

/-- R104: an entry that is none already is left as it is. -/
theorem State.clearMapEntry_of_empty {s : State} {k : Fin 16} (entry : s.capture.map[k] = .empty) :
    s.clearMapEntry k = s := by
  have same : s.capture.map.set k .empty = s.capture.map := entry ▸ Vector.set_getElem_self k.isLt
  rw [State.clearMapEntry, same]

theorem State.handleClose_of_record {s : State} {m : CloseMsg} {p : Fin 32} {r : Record}
    (entry : s.capture.map[m.slot] = .record p) (held : s.record p = some r) :
    s.handleClose m = (s.clearMapEntry m.slot).closeRecord p r m := by
  have place : s.capture.records[p] = some r := held
  simp only [State.handleClose, entry, State.record, place, State.clearMapEntry]

theorem State.handleClose_of_unrecorded {s : State} {m : CloseMsg} {q : Pick} {qs : List Pick}
    (entry : s.capture.map[m.slot] = .unrecorded) (picks : m.picks = q :: qs) :
    s.handleClose m = (s.clearMapEntry m.slot).request
      (.eventClosed 0 true m.switchClosed q.station q.onset (earliestOnset m.picks q.onset) m.picks.length
        m.weight none) := by
  simp only [State.handleClose, entry, State.closeUnrecorded, picks, State.clearMapEntry]

theorem State.handleClose_of_empty {s : State} {m : CloseMsg} (entry : s.capture.map[m.slot] = .empty) :
    s.handleClose m = s := by
  simp only [State.handleClose, entry]
  exact State.clearMapEntry_of_empty entry

/-! ## The row (R100) -/

/-- R100: the oldest message leaves the channel and is handled whole. -/
theorem exec_closeMessageTaken {s : State} {m : CloseMsg} {rest : List Message} (released : s.pins.rstn = true)
    (queue : s.channel = .close m :: rest) :
    exec .closeMessageTaken s = .next ({ s with channel := rest }.handleClose m) := by
  change execCloseMessageTaken s = _
  simp only [execCloseMessageTaken, State.whileReleased_of_released released, queue, List.head?_cons,
    State.dropMessage, List.tail_cons]

/-- Settles O47: the row hands the message on, and one equation for each content of the map entry says the rest. -/
theorem closeCompletesTheRecord : Obligations.CloseCompletesTheRecord := by
  intro s m rest released queue
  rw [exec_closeMessageTaken released queue]
  refine ⟨fun p r q qs entry held picks => ?_, fun q qs entry picks => ?_, fun entry => ?_⟩
  · rw [State.handleClose_of_record (s := { s with channel := rest }) entry held, State.closeRecord_eq,
      Record.closeNotices, Record.closed, picks, earliestOnset_cons]
    rfl
  · rw [State.handleClose_of_unrecorded (s := { s with channel := rest }) entry picks, picks, earliestOnset_cons]
    rfl
  · exact congrArg _ (State.handleClose_of_empty entry)

end Sys2Proof.Machine
end

section
/-! PROOFS. LOAD TABLE, READ TABLE and COPY BANK (chapter 10): where the operands are read, what a valid load makes of
the shadow bank, and what each command answers. -/

namespace Sys2Proof.Machine

/-! ## Operands of the table commands (R155, R167) -/

theorem readTableId_eq_some_iff (n : Nat) (t : TableId) : readTableId n = some t ↔
    (n = 1 ∧ t = .stations) ∨ (n = 2 ∧ t = .sets) ∨ (n = 3 ∧ t = .neighbours) ∨ (n = 4 ∧ t = .params) := by
  unfold readTableId
  split_ifs <;> cases t <;> simp <;> omega

/-- R154: a range that fails one of the three conditions is not valid. -/
theorem TableId.rangeOk_eq_false_iff (t : TableId) (first count : Nat) : t.rangeOk first count = false ↔
    ¬ (1 ≤ count ∧ first + count ≤ t.entries ∧ (t = .neighbours → count ≤ 32)) := by
  rw [← TableId.rangeOk_iff, Bool.not_eq_true]

theorem readBankName_of_le {n : Nat} (named : n ≤ 1) :
    readBankName n = some (if n = 0 then .active else .shadow) := by
  unfold readBankName
  split_ifs
  · rfl
  · rfl
  · omega

theorem readBankName_eq_none {n : Nat} (unnamed : 1 < n) : readBankName n = none := by
  rw [readBankName, if_neg (by omega), if_neg (by omega)]

/-! ## Answers of a command taken (R148, R150) -/

/-- A command that replaces the shadow bank answers as it would without that. -/
theorem State.setShadow_answer (s : State) (b : Bank) (c : Command) (k : Completion) (rs : List Byte) :
    (s.dropCommand.setShadow b).answer c k rs =
      { s.answered c k rs with ctrl := { s.ctrl with shadow := b } } :=
  State.answer_of_trunk (s := s) (t := s.dropCommand.setShadow b) rfl rfl c k rs

/-! ## LOAD TABLE (R154) -/

/-- R154, step 6: the completion code of a load. -/
theorem clampedCode_eq {clamps : Nat} {P : Prop} [Decidable P] (unclamped : clamps = 0 ↔ P) :
    clampedCode clamps = if P then .done else .doneClamped := by
  simp only [clampedCode, unclamped]

/-- R154, step 3. -/
theorem State.loadInto_of_range {s : State} {c : Command} {t : TableId}
    (range : t.rangeOk (at8 c.params 1) (at8 c.params 2) = false) :
    s.loadInto c t = s.answer c .noSuchTable [] := by
  simp [State.loadInto, range]

/-- R154, step 4. -/
theorem State.loadInto_of_length {s : State} {c : Command} {t : TableId}
    (range : t.rangeOk (at8 c.params 1) (at8 c.params 2) = true)
    (length : c.params.length ≠ 3 + at8 c.params 2 * t.entrySize) :
    s.loadInto c t = s.answer c .malformed [] := by
  simp [State.loadInto, range, length]

/-- R154, step 5. -/
theorem State.loadInto_of_scheduled {s : State} {c : Command} {t : TableId}
    (range : t.rangeOk (at8 c.params 1) (at8 c.params 2) = true)
    (length : c.params.length = 3 + at8 c.params 2 * t.entrySize) (scheduled : s.ctrl.scheduled.isSome = true) :
    s.loadInto c t = s.answer c .switchPending [] := by
  simp [State.loadInto, range, length, scheduled]

/-- R154, step 6. -/
theorem State.loadInto_of_free {s : State} {c : Command} {t : TableId}
    (range : t.rangeOk (at8 c.params 1) (at8 c.params 2) = true)
    (length : c.params.length = 3 + at8 c.params 2 * t.entrySize) (free : s.ctrl.scheduled = none) :
    let loaded := s.ctrl.shadow.loadAll t (at8 c.params 1) (at8 c.params 2) (c.params.drop 3)
    s.loadInto c t = (s.setShadow loaded.value).answer c (clampedCode loaded.clamps) [] := by
  simp [State.loadInto, range, length, free]

/-- A LOAD TABLE at the head whose table is known. -/
theorem execLoadTable_known {s : State} {c : Command} {t : TableId} (taken : s.canTake c) (code : c.code = 0x06)
    (long : 3 ≤ c.params.length) (known : readTableId (at8 c.params 0) = some t) :
    execLoadTable s = .next (s.dropCommand.loadInto c t) := by
  rw [execLoadTable_taken taken code, if_neg (by omega), known]

/-- R154: the slice of the parameters from which entry `n` is loaded. -/
def Command.entrySlice (c : Command) (t : TableId) (n : Nat) : List Byte :=
  (c.params.drop (3 + (n - at8 c.params 1) * t.entrySize)).take t.entrySize

/-- R154, step 6: the load stores each named entry of the shadow bank from its own slice, and no other entry. -/
theorem execLoadTable_loads {s : State} {c : Command} {t : TableId} (taken : s.canTake c) (code : c.code = 0x06)
    (long : 3 ≤ c.params.length) (known : readTableId (at8 c.params 0) = some t)
    (range : t.rangeOk (at8 c.params 1) (at8 c.params 2) = true)
    (length : c.params.length = 3 + at8 c.params 2 * t.entrySize) (free : s.ctrl.scheduled = none) :
    let first := at8 c.params 1
    let count := at8 c.params 2
    let loaded := fun n => s.ctrl.shadow.load t n (c.entrySlice t n)
    ∃ b : Bank, execLoadTable s = .next
        { s.answered c
            (if (List.range count).all fun k => decide ((loaded (first + k)).clamps = 0) then
              Completion.done else .doneClamped) [] with
          ctrl := { s.ctrl with shadow := b } } ∧
      (∀ n, first ≤ n → n < first + count → b.entryBytes t n = (loaded n).value.entryBytes t n) ∧
      ∀ other n, n < other.entries → (other ≠ t ∨ n < first ∨ first + count ≤ n) →
        b.entryBytes other n = s.ctrl.shadow.entryBytes other n := by
  intro first count loaded
  obtain ⟨_, inTable, _⟩ := (TableId.rangeOk_iff t first count).mp range
  obtain ⟨stored, others, unclamped⟩ :=
    Bank.loadAll_spec t count first s.ctrl.shadow s.ctrl.shadow (c.params.drop 3) inTable
  simp only [List.drop_drop] at stored unclamped
  have allUnclamped : (s.ctrl.shadow.loadAll t first count (c.params.drop 3)).clamps = 0 ↔
      ((List.range count).all fun k => decide ((loaded (first + k)).clamps = 0)) = true := by
    simp only [unclamped, List.all_eq_true, List.mem_range, decide_eq_true_eq, loaded, Command.entrySlice,
      first, Nat.add_sub_cancel_left]
  refine ⟨(s.ctrl.shadow.loadAll t first count (c.params.drop 3)).value, ?_, stored, others⟩
  rw [execLoadTable_known taken code long known,
    State.loadInto_of_free (s := s.dropCommand) range length free, ← clampedCode_eq allUnclamped]
  exact congrArg _ (State.setShadow_answer s _ c _ [])

/-! ## READ TABLE (R155) -/

/-- R155: a READ TABLE at the head. -/
theorem execReadTable_params {s : State} {c : Command} {bank table first count : Byte} (taken : s.canTake c)
    (code : c.code = 0x07) (params : c.params = [bank, table, first, count]) :
    execReadTable s = .next (s.dropCommand.reportTable c) := by
  rw [execReadTable_taken taken code, State.withLength_same (by rw [params]; rfl)]

section Report

variable {s : State} {c : Command} {bank table first count : Byte} (params : c.params = [bank, table, first, count])
include params

theorem State.reportTable_of_valid {t : TableId} (known : readTableId table.toNat = some t) (named : bank.toNat ≤ 1)
    (range : t.rangeOk first.toNat count.toNat = true) :
    s.reportTable c = s.answer c .done ([bank, table, first, count] ++
      (if bank = 0 then s.ctrl.active else s.ctrl.shadow).tableBytes t first.toNat count.toNat) := by
  have read : s.bankOf (if bank.toNat = 0 then .active else .shadow) =
      if bank = 0 then s.ctrl.active else s.ctrl.shadow := by
    have zero : bank.toNat = 0 ↔ bank = 0 := BitVec.toNat_inj (y := 0)
    rw [apply_ite s.bankOf]
    simp only [zero, State.bankOf]
  simp [State.reportTable, params, known, readBankName_of_le named, range, read]

theorem State.reportTable_of_invalid
    (invalid : 1 < bank.toNat ∨ readTableId table.toNat = none ∨
      ∀ t, readTableId table.toNat = some t → t.rangeOk first.toNat count.toNat = false) :
    s.reportTable c = s.answer c .noSuchTable [] := by
  cases known : readTableId table.toNat with
  | none => simp [State.reportTable, params, known]
  | some t =>
    rcases invalid with unnamed | unknown | outside
    · simp [State.reportTable, params, readBankName_eq_none unnamed]
    · exact absurd (known.symm.trans unknown) nofun
    · cases named : readBankName bank.toNat <;> simp [State.reportTable, params, known, named, outside t known]

end Report

/-! ## The three commands -/

/-- R154: the refusals of LOAD TABLE in their order, and the load. -/
theorem loadTable_judged {s : State} {c : Command} (taken : s.canTake c) (code : c.code = 0x06) :
    (c.params.length < 3 → execLoadTable s = .next (s.answered c .malformed [])) ∧
    (3 ≤ c.params.length → readTableId (at8 c.params 0) = none →
      execLoadTable s = .next (s.answered c .noSuchTable [])) ∧
    ∀ t, 3 ≤ c.params.length → readTableId (at8 c.params 0) = some t →
      let count := at8 c.params 2
      (t.rangeOk (at8 c.params 1) count = false → execLoadTable s = .next (s.answered c .noSuchTable [])) ∧
      (t.rangeOk (at8 c.params 1) count = true → c.params.length ≠ 3 + count * t.entrySize →
        execLoadTable s = .next (s.answered c .malformed [])) ∧
      (t.rangeOk (at8 c.params 1) count = true → c.params.length = 3 + count * t.entrySize →
        s.ctrl.scheduled.isSome = true → execLoadTable s = .next (s.answered c .switchPending [])) := by
  refine ⟨fun short => ?_, fun long unknown => ?_, fun t long known => ⟨fun range => ?_, fun range length => ?_,
    fun range length scheduled => ?_⟩⟩
  · rw [execLoadTable_taken taken code, if_pos short, State.dropCommand_answer]
  · rw [execLoadTable_taken taken code, if_neg (by omega), unknown, State.dropCommand_answer]
  · rw [execLoadTable_known taken code long known, State.loadInto_of_range range, State.dropCommand_answer]
  · rw [execLoadTable_known taken code long known, State.loadInto_of_length range length, State.dropCommand_answer]
  · rw [execLoadTable_known taken code long known,
      State.loadInto_of_scheduled (s := s.dropCommand) range length scheduled, State.dropCommand_answer]

/-- R156: COPY BANK is refused while a switch is scheduled, and otherwise the shadow bank is the active bank. -/
theorem copyBank_judged {s : State} {c : Command} (taken : s.canTake c) (code : c.code = 0x08)
    (params : c.params = []) :
    (s.ctrl.scheduled.isSome = true → execCopyBank s = .next (s.answered c .switchPending [])) ∧
    (s.ctrl.scheduled = none → execCopyBank s = .next
      { s.answered c .done [] with ctrl := { s.ctrl with shadow := s.ctrl.active } }) := by
  rw [execCopyBank_taken taken code, State.withLength_same (by rw [params]; rfl)]
  refine ⟨fun scheduled => ?_, fun free => ?_⟩
  · rw [if_pos scheduled, State.dropCommand_answer]
  · rw [free, if_neg (by simp), State.setShadow_answer]

/-- Settles O57: the operands are read as R155 and R167 say, and each command is judged by its own lemma; the ranges of
the statement are the test `TableId.rangeOk`. -/
theorem tablesLoadedAndRead : Obligations.TablesLoadedAndRead := by
  refine ⟨readTableId_eq_some_iff, rfl, TableId.rangeOk_iff, fun s c taken => ⟨fun code => ?_, ?_, ?_⟩⟩
  · obtain ⟨short, unknown, judged⟩ := loadTable_judged taken code
    refine ⟨short, unknown, fun t long known => ?_⟩
    obtain ⟨range, length, scheduled⟩ := judged t long known
    exact ⟨fun h => range ((TableId.rangeOk_eq_false_iff ..).mpr h),
      fun h => length ((TableId.rangeOk_iff ..).mpr h), fun h => scheduled ((TableId.rangeOk_iff ..).mpr h),
      fun h => execLoadTable_loads taken code long known ((TableId.rangeOk_iff ..).mpr h)⟩
  · intro bank table first count code params
    have run := execReadTable_params taken code params
    refine ⟨fun t known named range => run.trans ?_, fun invalid => run.trans ?_⟩
    · rw [State.reportTable_of_valid params known named range, State.dropCommand_answer]
      rfl
    · rw [State.reportTable_of_invalid params invalid, State.dropCommand_answer]
  · exact copyBank_judged taken

end Sys2Proof.Machine
end

section
/-! PROOFS. The commands that report, and WRITE SETTINGS (chapter 10): the bytes of their results, the event list in
declaration order, and the record that an event number names. -/

namespace Sys2Proof.Machine

/-! ## Marks in bytes (R165) -/

theorem markByte_eq (b : Bool) : markByte b = byte b.toNat := by cases b <;> rfl

theorem marksByte_three (a b c : Bool) : marksByte [a, b, c] = byte (a.toNat + 2 * b.toNat + 4 * c.toNat) :=
  congrArg byte (by simp only [List.foldr]; omega)

theorem marksByte_five (a b c d e : Bool) : marksByte [a, b, c, d, e] =
    byte (a.toNat + 2 * b.toNat + 4 * c.toNat + 8 * d.toNat + 16 * e.toNat) :=
  congrArg byte (by simp only [List.foldr]; omega)

/-- A byte holds a number mod 256. -/
theorem byte_add_mul (n k : Nat) : byte (n + 256 * k) = byte n :=
  BitVec.eq_of_toNat_eq (by simp [byte])

/-- A two-byte field of a high and a low part. -/
theorem be16_of_parts {lo : Nat} (low : lo < 256) (hi : Nat) : be16 (lo + 256 * hi) = [byte hi, byte lo] := by
  rw [be16, byte_add_mul, show (lo + 256 * hi) / 256 = hi by omega]

/-! ## Unit settings (R151, R166) -/

/-- R151: a two-valued code is stored as set when it is not 0, and it is clamped above 1. -/
theorem clampCode_true (n : Nat) : clampCode true n = (decide (n ≠ 0), if n ≤ 1 then 0 else 1) := by
  match n with
  | 0 => rfl
  | 1 => rfl
  | n + 2 => simp [clampCode]

/-- R151: a value is stored as the nearest one in range, and it is clamped when it is out of range. -/
theorem clampTo_eq {lo hi : Nat} (ordered : lo ≤ hi) (n : Nat) :
    clampTo lo hi n = (max lo (min hi n), if lo ≤ n ∧ n ≤ hi then 0 else 1) := by
  unfold clampTo
  split_ifs <;> simp <;> omega

/-- R151: any retention code but 1 is stored as KEEP, and a code above 1 is clamped. -/
theorem readRetention_eq (n : Nat) :
    readRetention n = (if n = 1 then .recycle else .keep, if n ≤ 1 then 0 else 1) := by
  match n with
  | 0 => rfl
  | 1 => rfl
  | n + 2 => simp [readRetention]

/-- R166: the bytes of the settings. -/
theorem writeSettings_eq (x : Settings) : writeSettings x =
    [byte x.forwarding.a.toNat, byte x.forwarding.b.toNat,
      byte (x.mask.event.toNat + 2 * x.mask.station.toNat + 4 * x.mask.line.toNat + 8 * x.mask.config.toNat +
        16 * x.mask.fault.toNat),
      (match x.retention with
      | .keep => 0
      | .recycle => 1), byte x.silence, byte x.gap] := by
  have retention : byte x.retention.code = (match x.retention with
      | .keep => 0
      | .recycle => 1) := by cases x.retention <;> rfl
  rw [writeSettings, markByte_eq, markByte_eq, marksByte_five, retention]

/-- R151: WRITE SETTINGS clamps each operand on its own. -/
theorem readSettings_eq (fa fb mask retention silence gap : Byte) :
    readSettings [fa, fb, mask, retention, silence, gap] =
      { value :=
          { forwarding := ⟨decide (fa ≠ 0), decide (fb ≠ 0)⟩
            mask := ⟨mask.getLsbD 0, mask.getLsbD 1, mask.getLsbD 2, mask.getLsbD 3, mask.getLsbD 4⟩
            retention := if retention = 1 then .recycle else .keep
            silence := max 1 silence.toNat
            gap := min 64 gap.toNat }
        clamps := (if fa.toNat ≤ 1 then 0 else 1) + (if fb.toNat ≤ 1 then 0 else 1) +
          (if retention.toNat ≤ 1 then 0 else 1) + (if silence ≠ 0 then 0 else 1) +
          (if gap.toNat ≤ 64 then 0 else 1) } := by
  have zero (b : Byte) : b.toNat = 0 ↔ b = 0 := BitVec.toNat_inj (y := 0)
  have one : retention.toNat = 1 ↔ retention = 1 := BitVec.toNat_inj (y := 1)
  have nonzero : 1 ≤ silence.toNat ∧ silence.toNat ≤ 255 ↔ silence ≠ 0 := by
    have := silence.isLt
    rw [ne_eq, ← zero silence]
    omega
  have silenceMax : min 255 silence.toNat = silence.toNat := by
    have := silence.isLt
    omega
  simp only [readSettings, at8_cons_zero, at8_cons_succ, clampCode_true, readRetention_eq,
    clampTo_eq (show 1 ≤ 255 by decide), clampTo_eq (show 0 ≤ 64 by decide), ne_eq, zero, one, nonzero, silenceMax,
    Nat.zero_le, true_and, Nat.zero_max]
  rfl

/-- R151: nothing is clamped exactly when every operand is in its range. -/
theorem readSettings_clamps_eq_zero_iff (fa fb mask retention silence gap : Byte) :
    (readSettings [fa, fb, mask, retention, silence, gap]).clamps = 0 ↔
      fa.toNat ≤ 1 ∧ fb.toNat ≤ 1 ∧ retention.toNat ≤ 1 ∧ silence ≠ 0 ∧ gap.toNat ≤ 64 := by
  simp [readSettings_eq, and_assoc]

/-! ## The unit status (R146) -/

/-- R146, R166: LINE_OVERRUN is the one flag of the high byte. -/
theorem State.statusBytes_eq (s : State) : s.statusBytes =
    [byte s.ctrl.flags.lineOverrun.toNat,
      byte (s.ctrl.flags.pickOverflow.toNat + 2 * s.ctrl.flags.candidateFull.toNat +
        4 * s.ctrl.flags.eventTableFull.toNat + 8 * s.ctrl.flags.poolShort.toNat +
        16 * s.ctrl.flags.noticeLost.toNat + 32 * s.ctrl.flags.passDrop.toNat +
        64 * s.ctrl.flags.controlOverrun.toNat + 128 * s.ctrl.flags.fieldDrop.toNat)] := by
  rw [← be16_of_parts]
  · exact congrArg be16 (by simp only [Flags.bits, List.foldr]; omega)
  · grind [Bool.toNat_le]

/-! ## The event list (R103, R124) -/

/-- R103: a record was declared no later than another. -/
abbrev Record.orderLe (x y : Record) : Prop := x.order ≤ y.order

/-- The event list is the records of the table, sorted by declaration order. -/
theorem State.recordsByOrder_eq (s : State) :
    s.recordsByOrder = (allPlaces.filterMap s.record).insertionSort Record.orderLe := by
  unfold State.recordsByOrder List.insertionSort
  congr 1
  funext r rs
  simp [List.orderedInsert_eq_take_drop]

theorem State.recordsByOrder_perm (s : State) : s.recordsByOrder.Perm (allPlaces.filterMap s.record) :=
  s.recordsByOrder_eq ▸ List.perm_insertionSort _ _

theorem State.mem_recordsByOrder (s : State) (r : Record) : r ∈ s.recordsByOrder ↔ ∃ p, s.record p = some r := by
  simp [s.recordsByOrder_perm.mem_iff]

theorem State.recordsByOrder_length (s : State) : s.recordsByOrder.length = s.recordCount := by
  rw [s.recordsByOrder_perm.length_eq, List.length_filterMap_eq_countP, State.recordCount]

/-- R103: where the declaration orders are distinct, the event list is in strictly ascending order. -/
theorem State.recordsByOrder_pairwise {s : State} (ok : s.ordersOk) :
    s.recordsByOrder.Pairwise (fun x y => x.order < y.order) := by
  obtain ⟨_, distinct⟩ := ok
  have total : Std.Total Record.orderLe := ⟨fun x y => Nat.le_total x.order y.order⟩
  have trans : IsTrans Record Record.orderLe := ⟨fun _ _ _ => Nat.le_trans⟩
  have sorted : s.recordsByOrder.Pairwise Record.orderLe :=
    s.recordsByOrder_eq ▸ List.pairwise_insertionSort Record.orderLe _
  have different : s.recordsByOrder.Pairwise (fun x y => x.order ≠ y.order) := by
    rw [s.recordsByOrder_perm.pairwise_iff fun h => h.symm, List.pairwise_filterMap]
    exact allPlaces_nodup.imp fun other _ hx _ hy same => other (distinct _ _ _ _ hx hy same)
  exact sorted.imp₂ (fun _ _ le ne => Nat.lt_of_le_of_ne le ne) different

/-! ## The record of an event number (R105) -/

theorem State.findRecord_eq_none_iff (s : State) (n : Nat) :
    s.findRecord n = none ↔ ∀ p r, s.record p = some r → r.number ≠ n := by
  rw [State.findRecord, List.find?_eq_none]
  refine ⟨fun unnamed p r held => ?_, fun unnamed p _ => ?_⟩
  · simpa [held] using unnamed p (mem_allPlaces p)
  · cases held : s.record p with
    | none => simp
    | some r => simpa using unnamed p r held

theorem State.record_of_findRecord {s : State} {n : Nat} {p : Fin 32} (found : s.findRecord n = some p) :
    ∃ r, s.record p = some r ∧ r.number = n := by
  have named := List.find?_some found
  cases held : s.record p with
  | none => simp [held] at named
  | some r => exact ⟨r, rfl, by simpa [held] using named⟩

/-- R105: where the event numbers are distinct, a record is found by its own. -/
theorem State.findRecord_number {s : State} (ok : s.numbersOk) {p : Fin 32} {r : Record} (held : s.record p = some r) :
    s.findRecord r.number = some p := by
  obtain ⟨_, _, _, distinct⟩ := ok
  cases found : s.findRecord r.number with
  | none => exact absurd rfl ((s.findRecord_eq_none_iff _).mp found p r held)
  | some q =>
    obtain ⟨x, heldThere, same⟩ := State.record_of_findRecord found
    rw [distinct q p x r heldThere held same]

/-! ## The results of READ EVENT (R125, R166) -/

theorem Pick.bytes_eq (p : Pick) : p.bytes = byte p.station.val :: (be32 p.onset.toNat ++ be16 p.peak ++
    [byte p.set.val, byte (p.clipped.toNat + 2 * p.filled.toNat)]) := rfl

/-- R101: the first copied index, the window's start where nothing is copied. -/
theorem CaptureSection.firstCopied_getD (w : CaptureSection) (e : StationEntry) :
    (w.firstCopied e).getD w.start =
      if 0 < e.bulkCount then e.bulkFirst.getD w.start
      else if 0 < e.directCount then indexPlus w.start (w.bulkLength e.boundary)
      else w.start := by
  unfold CaptureSection.firstCopied
  split_ifs <;> rfl

/-- R118: the blocks that a chain holds are its positions not yet returned. -/
theorem chainBlocks_length (chain : List (Option Nat)) : (chainBlocks chain).length = chain.countP Option.isSome :=
  List.length_filterMap_eq_countP

theorem CaptureSection.summary_eq (w : CaptureSection) (e : StationEntry) : w.summary e =
    byte e.station.val ::
      (be32 (if 0 < e.bulkCount then e.bulkFirst.getD w.start
        else if 0 < e.directCount then indexPlus w.start (w.bulkLength e.boundary)
        else w.start).toNat ++ be16 (e.bulkCount + e.directCount) ++ be16 e.filledCount ++
      [byte (e.startClamped.toNat + 2 * e.lineLost.toNat + 4 * e.testData.toNat + 8 * e.bulkDone.toNat +
          16 * e.directDone.toNat), byte (e.chain.countP Option.isSome)]) := by
  rw [CaptureSection.summary, CaptureSection.firstCopied_getD, chainBlocks_length, marksByte_five]
  rfl

/-- R166: the capture fields of the header are all 0 without a capture section. -/
theorem Record.header_eq (r : Record) : r.header =
    be16 r.number ++ [byte r.state.code, byte r.anchor.val] ++ be32 r.t0.toNat ++ be32 r.earliest.toNat ++
      be16 r.generation.toNat ++
      [byte (r.switchClosed.toNat + 2 * r.captureAbsent.toNat + 4 * r.captureDisabled.toNat)] ++
      (match r.capture with
      | some w => 1 :: (be32 w.start.toNat ++ be32 w.stop.toNat ++ [byte w.entries.length])
      | none => List.replicate 10 0) ++ [byte r.picks.length] := by
  rw [Record.header, marksByte_three]
  cases window : r.capture with
  | none => simp [Record.entries, window, markByte, be32, byte]
  | some w => simp [Record.entries, window, markByte]

/-! ## The commands -/

/-- R151: WRITE SETTINGS of six operands. -/
theorem execWriteSettings_params {s : State} {c : Command} {fa fb mask retention silence gap : Byte}
    (taken : s.canTake c) (code : c.code = 0x04) (params : c.params = [fa, fb, mask, retention, silence, gap]) :
    let stored := (readSettings [fa, fb, mask, retention, silence, gap]).value
    execWriteSettings s = .next
      { s.answered c (if fa.toNat ≤ 1 ∧ fb.toNat ≤ 1 ∧ retention.toNat ≤ 1 ∧ silence ≠ 0 ∧ gap.toNat ≤ 64 then
            Completion.done else .doneClamped) (writeSettings stored) with
        ctrl := { s.ctrl with settings := stored } } := by
  intro stored
  rw [execWriteSettings_taken taken code, State.withLength_same (by rw [params]; rfl), params]
  have completion : clampedCode (readSettings [fa, fb, mask, retention, silence, gap]).clamps =
      if fa.toNat ≤ 1 ∧ fb.toNat ≤ 1 ∧ retention.toNat ≤ 1 ∧ silence ≠ 0 ∧ gap.toNat ≤ 64 then
        .done else .doneClamped := clampedCode_eq (readSettings_clamps_eq_zero_iff ..)
  rw [completion]
  exact congrArg _ (State.answer_of_trunk (s := s) (t := s.dropCommand.setSettings stored) rfl rfl c _ _)

/-- R125: READ EVENT of an event number that a record holds. -/
theorem execReadEvent_held {s : State} {c : Command} (taken : s.canTake c) (code : c.code = 0x0D)
    (length : c.params.length = 2) (ok : s.numbersOk) {p : Fin 32} {r : Record} (held : s.record p = some r)
    (number : r.number = at16 c.params 0) : execReadEvent s = .next (s.answered c .done r.details) := by
  rw [execReadEvent_taken taken code, State.withLength_same length, ← number, State.findRecord_number ok held,
    Option.bind_some, held]
  exact congrArg _ (s.dropCommand_answer c .done r.details)

/-- R125: READ EVENT of an event number that no record holds. -/
theorem execReadEvent_none {s : State} {c : Command} (taken : s.canTake c) (code : c.code = 0x0D)
    (length : c.params.length = 2) (unheld : ∀ p r, s.record p = some r → r.number ≠ at16 c.params 0) :
    execReadEvent s = .next (s.answered c .noSuchEvent []) := by
  rw [execReadEvent_taken taken code, State.withLength_same length, (s.findRecord_eq_none_iff _).mpr unheld,
    Option.bind_none, State.dropCommand_answer]

/-- Settles O55: each command executes whole, and one equation for each kind of result gives its bytes; the event list
is the sorted table, and READ EVENT finds the one record of its number. -/
theorem reportsAndSettings : Obligations.ReportsAndSettings := by
  refine ⟨fun _ => rfl, writeSettings_eq, fun s c taken => ?_⟩
  have empty {params : List Byte} (nil : params = []) : params.length = 0 := nil ▸ rfl
  intro header pick summary
  have headers : Record.header = header := funext Record.header_eq
  have picks : Pick.bytes = pick := funext Pick.bytes_eq
  have summaries : CaptureSection.summary = summary := funext fun w => funext w.summary_eq
  refine ⟨fun code params => ?identify, fun code params => ?status, fun code params => ?readSettings,
    fun fa fb mask retention silence gap code params => ?writeSettings, fun ok code params => ?list,
    fun ok code length => ⟨fun p r held number => ?held, execReadEvent_none taken code length⟩⟩
  case identify =>
    refine (execIdentify_taken taken code).trans ?_
    rw [State.withLength_same (empty params), State.dropCommand_answer]
    rfl
  case status =>
    refine (execReadStatus_taken taken code).trans ?_
    rw [State.withLength_same (empty params), State.statusBytes_eq]
    exact congrArg _ (State.answer_of_trunk (s := s) (t := s.dropCommand.clearFlags) rfl rfl c _ _)
  case readSettings =>
    refine (execReadSettings_taken taken code).trans ?_
    rw [State.withLength_same (empty params), State.dropCommand_answer]
  case writeSettings =>
    refine (execWriteSettings_params taken code params).trans ?_
    rw [readSettings_eq]
  case list =>
    refine ⟨s.recordsByOrder, s.mem_recordsByOrder, s.recordsByOrder_length, State.recordsByOrder_pairwise ok,
      (execListEvents_taken taken code).trans ?_⟩
    rw [State.withLength_same (empty params), State.dropCommand_answer]
    rfl
  case held =>
    refine (execReadEvent_held taken code length ok held number).trans ?_
    rw [← headers, ← picks, ← summaries]
    rfl

end Sys2Proof.Machine
end

section
/-! PROOFS. The member of least order that a fold over a table finds: the candidate of lowest open order (R83, R93)
and the READY record of lowest declaration order (R106). -/

namespace Sys2Proof.Machine

/-- One step of the search: the place is looked up, and the better of the two is kept. -/
def leastStep {κ β : Type} (find : κ → Option β) (order : β → Nat) (best : Option (κ × β)) (k : κ) : Option (κ × β) :=
  match find k, best with
  | none, _ => best
  | some c, none => some (k, c)
  | some c, some x => if order c < order x.2 then some (k, c) else some x

/-- What the search over a list of places finds: nothing where every place is empty, and otherwise a member whose order
no other member's order is below. -/
def IsLeast {κ β : Type} (find : κ → Option β) (order : β → Nat) (places : List κ) : Option (κ × β) → Prop
  | none => ∀ k ∈ places, find k = none
  | some (k, c) => k ∈ places ∧ find k = some c ∧ ∀ j ∈ places, ∀ x, find j = some x → order c ≤ order x

theorem foldl_leastStep {κ β : Type} (find : κ → Option β) (order : β → Nat) (places : List κ) :
    IsLeast find order places (places.foldl (leastStep find order) none) := by
  induction places using List.reverseRecOn with
  | nil => simp [IsLeast]
  | append_singleton ks k ih =>
    rw [List.foldl_append, List.foldl_cons, List.foldl_nil]
    generalize ks.foldl (leastStep find order) none = best at ih ⊢
    have last {j : κ} {y : β} (mem : j ∈ ks ++ [k]) (found : find j = some y) :
        (j ∈ ks ∧ find j = some y) ∨ find k = some y := by
      rcases List.mem_append.mp mem with old | new
      · exact .inl ⟨old, found⟩
      · exact .inr (List.mem_singleton.mp new ▸ found)
    cases hk : find k with
    | none =>
      simp only [hk, reduceCtorEq, or_false] at last
      cases best with
      | none =>
        simp only [leastStep, hk]
        intro j mem
        rcases List.mem_append.mp mem with old | new
        · exact ih j old
        · rwa [List.mem_singleton.mp new]
      | some x =>
        obtain ⟨mem, found, least⟩ := ih
        simp only [leastStep, hk]
        exact ⟨List.mem_append_left _ mem, found, fun j hj y hy => least j (last hj hy).1 y hy⟩
    | some c =>
      have single (y : β) (found : find k = some y) : order c ≤ order y := by
        rw [hk, Option.some.injEq] at found
        rw [found]
      cases best with
      | none =>
        simp only [leastStep, hk]
        refine ⟨by simp, hk, fun j hj y hy => ?_⟩
        rcases last hj hy with ⟨old, found⟩ | new
        · rw [ih j old] at found
          cases found
        · exact single y new
      | some x =>
        obtain ⟨mem, found, least⟩ := ih
        simp only [leastStep, hk]
        split_ifs with below
        · refine ⟨by simp, hk, fun j hj y hy => ?_⟩
          rcases last hj hy with ⟨old, found⟩ | new
          · exact below.le.trans (least j old y found)
          · exact single y new
        · refine ⟨List.mem_append_left _ mem, found, fun j hj y hy => ?_⟩
          rcases last hj hy with ⟨old, found⟩ | new
          · exact least j old y found
          · exact (not_lt.mp below).trans (single y new)

/-! ## The candidate of lowest open order -/

/-- The candidate of a slot, when it passes a test. -/
def passing (slots : Vector (Option Candidate) 16) (test : Candidate → Bool) (k : Fin 16) : Option Candidate :=
  (slots[k]).filter test

theorem passing_eq_some_iff {slots : Vector (Option Candidate) 16} {test : Candidate → Bool} {k : Fin 16}
    {c : Candidate} : passing slots test k = some c ↔ slots[k] = some c ∧ test c = true := Option.filter_eq_some_iff

theorem lowestOrder_eq (slots : Vector (Option Candidate) 16) (test : Candidate → Bool) :
    lowestOrder slots test = allSlots.foldl (leastStep (passing slots test) Candidate.order) none := by
  unfold lowestOrder
  congr 1
  funext best k
  cases h : slots[k] with
  | none => simp only [leastStep, passing, h, Option.filter_none]
  | some c =>
    simp only [leastStep, passing, h, Option.filter_some]
    split_ifs
    · cases best <;> rfl
    · rfl

theorem lowestOrder_isLeast (slots : Vector (Option Candidate) 16) (test : Candidate → Bool) :
    IsLeast (passing slots test) Candidate.order allSlots (lowestOrder slots test) :=
  lowestOrder_eq slots test ▸ foldl_leastStep _ _ _

/-- The candidate found passes the test, and no candidate that passes it has a lower open order. -/
theorem lowestOrder_some {slots : Vector (Option Candidate) 16} {test : Candidate → Bool} {k : Fin 16} {c : Candidate}
    (found : lowestOrder slots test = some (k, c)) :
    slots[k] = some c ∧ test c = true ∧
      ∀ (j : Fin 16) x, slots[j] = some x → test x = true → c.order ≤ x.order := by
  have least := lowestOrder_isLeast slots test
  rw [found] at least
  obtain ⟨-, held, below⟩ := least
  obtain ⟨held, passes⟩ := passing_eq_some_iff.mp held
  exact ⟨held, passes, fun j x heldx passesx => below j (mem_allSlots j) x (passing_eq_some_iff.mpr ⟨heldx, passesx⟩)⟩

theorem lowestOrder_eq_none_iff (slots : Vector (Option Candidate) 16) (test : Candidate → Bool) :
    lowestOrder slots test = none ↔ ∀ (k : Fin 16) c, slots[k] = some c → test c = false := by
  constructor
  · intro empty k c held
    have least := lowestOrder_isLeast slots test
    rw [empty] at least
    by_contra passes
    have found := passing_eq_some_iff.mpr ⟨held, Bool.not_eq_false _ ▸ passes⟩
    rw [least k (mem_allSlots k)] at found
    cases found
  · intro fails
    match h : lowestOrder slots test with
    | none => rfl
    | some (k, c) =>
      obtain ⟨held, passes, -⟩ := lowestOrder_some h
      rw [fails k c held] at passes
      cases passes

/-! ## The oldest READY record -/

/-- The record of a place, when it is READY. -/
def State.readyAt (s : State) (p : Fin 32) : Option Record := (s.record p).filter fun r => decide (r.state = .ready)

theorem State.readyAt_eq_some_iff {s : State} {p : Fin 32} {r : Record} :
    s.readyAt p = some r ↔ s.record p = some r ∧ r.state = .ready := by
  rw [State.readyAt, Option.filter_eq_some_iff, decide_eq_true_iff]

theorem State.oldestReady_eq (s : State) :
    s.oldestReady = allPlaces.foldl (leastStep s.readyAt Record.order) none := by
  unfold State.oldestReady
  congr 1
  funext best p
  cases h : s.record p with
  | none => simp only [leastStep, State.readyAt, h, Option.filter_none]
  | some r =>
    simp only [leastStep, State.readyAt, h, Option.filter_some, decide_eq_true_eq]
    split_ifs
    · cases best <;> rfl
    · rfl

theorem State.oldestReady_isLeast (s : State) : IsLeast s.readyAt Record.order allPlaces s.oldestReady :=
  s.oldestReady_eq ▸ foldl_leastStep _ _ _

/-- The record found is READY, and no READY record has a lower declaration order. -/
theorem State.oldestReady_some {s : State} {p : Fin 32} {r : Record} (found : s.oldestReady = some (p, r)) :
    s.record p = some r ∧ r.state = .ready ∧
      ∀ q x, s.record q = some x → x.state = .ready → r.order ≤ x.order := by
  have least := s.oldestReady_isLeast
  rw [found] at least
  obtain ⟨-, held, below⟩ := least
  obtain ⟨held, ready⟩ := State.readyAt_eq_some_iff.mp held
  exact ⟨held, ready, fun q x heldx readyx => below q (mem_allPlaces q) x (State.readyAt_eq_some_iff.mpr ⟨heldx, readyx⟩)⟩

theorem State.oldestReady_eq_none_iff (s : State) :
    s.oldestReady = none ↔ ∀ p r, s.record p = some r → r.state ≠ .ready := by
  constructor
  · intro empty p r held ready
    have least := s.oldestReady_isLeast
    rw [empty] at least
    have found := State.readyAt_eq_some_iff.mpr ⟨held, ready⟩
    rw [least p (mem_allPlaces p)] at found
    cases found
  · intro fails
    match h : s.oldestReady with
    | none => rfl
    | some (p, r) =>
      obtain ⟨held, ready, -⟩ := State.oldestReady_some h
      exact absurd ready (fails p r held)

end Sys2Proof.Machine
end

section
/-! PROOFS. What a loaded entry is stored as lies in its range (R20, R34, R77, R79). -/

namespace Sys2Proof.Machine

/-! ## Station entries and detector sets -/

/-- R20, R21: the second step leaves at least one component in use. -/
theorem fixRoles_inRange (x : StationEntryCfg) (low : 1 ≤ x.weight) (high : x.weight ≤ 3) :
    (fixRoles x).value.inRange := by
  unfold fixRoles StationEntryCfg.inRange
  cases mode : x.mode with
  | vertical =>
    dsimp only
    split_ifs with unused
    · simp [low, high]
    · refine ⟨low, high, ?_⟩
      simp only [mode]
      tauto
  | vector =>
    dsimp only
    split_ifs with unused
    · simp [low, high]
    · refine ⟨low, high, ?_⟩
      simp only [mode]
      tauto

theorem readStationEntry_inRange (bs : List Byte) : (readStationEntry bs).value.inRange :=
  fixRoles_inRange _ (clampTo_mem (by decide) _).1 (clampTo_mem (by decide) _).2

theorem readDetectorSet_inRange (bs : List Byte) : (readDetectorSet bs).value.inRange := by
  have g := clampTo_mem (lo := 0) (hi := 16) (by decide) (at8 bs 2)
  have s := clampTo_mem (lo := 2) (hi := 10) (by decide) (at8 bs 3)
  have l := clampTo_mem (lo := 6) (hi := 16) (by decide) (at8 bs 4)
  have rOn := clampTo_mem (lo := 16) (hi := 1023) (by decide) (at16 bs 5)
  have rOff := clampTo_mem (lo := 8) (hi := 1023) (by decide) (at16 bs 7)
  have bytes := at8_lt bs 9
  have words : at16 bs 0 < 65536 ∧ at16 bs 10 < 65536 ∧ at16 bs 12 < 65536 ∧ at16 bs 14 < 65536 :=
    ⟨at16_lt _ _, at16_lt _ _, at16_lt _ _, at16_lt _ _⟩
  simp only [readDetectorSet, DetectorSet.inRange]
  split_ifs <;> omega

/-! ## Neighbour lists -/

/-- R77: the entries kept are of different stations, none of them the owner, with moveouts in their range; there are
no more of them than places read. -/
theorem readNeighbours_inRange (owner : Station) (bs : List Byte) : ∀ places : List Nat,
    (readNeighbours owner bs places).value.length ≤ places.length ∧
      ((readNeighbours owner bs places).value.map Neighbour.station).Nodup ∧
      ∀ x ∈ (readNeighbours owner bs places).value, x.station ≠ owner ∧ 1 ≤ x.moveout ∧ x.moveout ≤ 16383
  | [] => by simp [readNeighbours]
  | p :: earlier => by
    obtain ⟨length, nodup, range⟩ := readNeighbours_inRange owner bs earlier
    have moveout := clampTo_mem (lo := 1) (hi := 16383) (by decide) (at16 bs (2 + 3 * p))
    unfold readNeighbours
    dsimp only
    split_ifs with station known
    · exact ⟨by simp only [List.length_cons]; omega, nodup, range⟩
    · rw [not_or, List.any_eq_true, not_exists] at known
      refine ⟨by simpa using length, ?_, fun x mem => ?_⟩
      · rw [List.map_append, List.nodup_append]
        refine ⟨nodup, by simp, fun a mem b single => ?_⟩
        obtain ⟨y, memy, rfl⟩ := List.mem_map.mp mem
        rintro rfl
        simp only [List.map_cons, List.map_nil, List.mem_singleton] at single
        exact known.2 y ⟨memy, decide_eq_true single⟩
      · rcases List.mem_append.mp mem with old | new
        · exact range x old
        · rw [List.mem_singleton.mp new]
          exact ⟨known.1, moveout⟩
    · exact ⟨by simp only [List.length_cons]; omega, nodup, range⟩

theorem readNeighbourList_inRange (owner : Station) (bs : List Byte) :
    neighboursInRange owner (readNeighbourList owner bs).value := by
  obtain ⟨length, nodup, range⟩ := readNeighbours_inRange owner bs (List.range (clampTo 0 15 (at8 bs 0)).1).reverse
  have count := (clampTo_mem (lo := 0) (hi := 15) (by decide) (at8 bs 0)).2
  rw [List.length_reverse, List.length_range] at length
  exact ⟨length.trans count, nodup, range⟩

/-! ## Association parameters and whole banks -/

theorem readAssocParams_inRange (bs : List Byte) : (readAssocParams bs).value.inRange := by
  have quorum := clampTo_mem (lo := 2) (hi := 192) (by decide) (at16 bs 0)
  have slack := clampTo_mem (lo := 0) (hi := 4095) (by decide) (at16 bs 2)
  have ext := clampTo_mem (lo := 0) (hi := 4095) (by decide) (at16 bs 4)
  have limit := clampTo_mem (lo := 0) (hi := 7) (by decide) (at16 bs 6)
  have span := clampTo_mem (lo := 1) (hi := 65535) (by decide) (at16 bs 8)
  have pre := clampTo_mem (lo := 0) (hi := 4095) (by decide) (at16 bs 12)
  have post := clampTo_mem (lo := 0) (hi := 4096) (by decide) (at16 bs 14)
  exact ⟨quorum, slack.2, ext.2, limit.2, span, pre.2, post.2⟩

theorem Vector.get_set_fin {α : Type} {n : Nat} (v : Vector α n) (k : Nat) (h : k < n) (x : α) (i : Fin n) :
    (v.set k x)[i] = if i.val = k then x else v[i] := by
  simp only [Fin.getElem_fin, Vector.getElem_set]
  simp only [eq_comm]

theorem Bank.load_inRange {b : Bank} (ok : b.inRange) (t : TableId) (n : Nat) (bs : List Byte) :
    (b.load t n bs).value.inRange := by
  obtain ⟨stations, sets, neighbours, params⟩ := ok
  unfold Bank.load
  cases t with
  | stations =>
    dsimp only
    split
    · refine ⟨fun i => ?_, sets, neighbours, params⟩
      rw [Bank.station, Vector.get_set_fin]
      split_ifs
      · exact readStationEntry_inRange bs
      · exact stations i
    · exact ⟨stations, sets, neighbours, params⟩
  | sets =>
    dsimp only
    split
    · refine ⟨stations, fun i => ?_, neighbours, params⟩
      rw [Vector.get_set_fin]
      split_ifs
      · exact readDetectorSet_inRange bs
      · exact sets i
    · exact ⟨stations, sets, neighbours, params⟩
  | neighbours =>
    dsimp only
    split
    · refine ⟨stations, sets, fun i => ?_, params⟩
      rw [Bank.neighbourList, Vector.get_set_fin]
      split_ifs with same
      · subst same
        exact readNeighbourList_inRange i bs
      · exact neighbours i
    · exact ⟨stations, sets, neighbours, params⟩
  | params => exact ⟨stations, sets, neighbours, readAssocParams_inRange bs⟩

theorem Bank.loadAll_inRange (t : TableId) : ∀ (count first : Nat) {b : Bank} (_ : b.inRange) (bs : List Byte),
    (b.loadAll t first count bs).value.inRange
  | 0, _, _, ok, _ => ok
  | count + 1, first, _, ok, bs =>
    Bank.loadAll_inRange t count (first + 1) (Bank.load_inRange ok t first (bs.take t.entrySize)) (bs.drop t.entrySize)

end Sys2Proof.Machine
end

section
/-! PROOFS. What one step can do, said once: the atomic moves of the blocks, and that every command is a run of
them. The invariants that every step keeps are then read off the moves. -/

namespace Sys2Proof.Machine

/-! ## The line ports (chapter 1) -/

/-- What one event can make of a line port. -/
inductive PortMove : LinePort → LinePort → Prop
  /-- Reception, the transmitter, the silence timer, the TEST mark and the counts of frames. -/
  | aside (p : LinePort) (rx : List Byte) (fieldQueue : List InnerFrame) (tx : Option (List Byte))
      (silence : Option Nat) (test : Bool) (backward : Nat) (room : fieldQueue.length ≤ max p.fieldQueue.length 4) :
      PortMove p { p with
        rx := rx, fieldQueue := fieldQueue, tx := tx, silence := silence, test := test, backward := backward }
  /-- R11: a line-leave empties the buffer. -/
  | emptied (p : LinePort) : PortMove p { p with buffer := [], overrunFill := 0 }
  /-- R5 to R7, R10: the state and the expected index of a line that holds no entry. -/
  | outside (p : LinePort) (state : LineState) (expected : Option Index) (run backward : Nat) (silence : Option Nat)
      (empty : p.state ≠ .live ∨ p.buffer = []) :
      PortMove p { p with
        state := state, expected := expected, run := run, backward := backward, silence := silence }
  /-- R6, R9, R12: a frame handed on enters the buffer. -/
  | handed (p : LinePort) (l : Line) (i : Index) (fill run : Nat) (test : Bool) (map : PositionMap)
      (bridge : p.state ≠ .live ∨ ∃ e, p.expected = some e ∧ fill = (i - e).toNat + p.overrunFill)
      (room : p.buffer.length < 4) :
      PortMove p { p with
        state := .live, expected := some (i + 1), run := run, backward := 0, test := test, overrunFill := 0
        buffer := p.buffer ++ [⟨l, i, fill, test, map, 0⟩] }
  /-- R12: a frame handed on is dropped at a full buffer. -/
  | overrun (p : LinePort) (i : Index) (fill run : Nat) (test : Bool)
      (bridge : p.state ≠ .live ∨ ∃ e, p.expected = some e ∧ fill = (i - e).toNat + p.overrunFill)
      (full : ¬ p.buffer.length < 4) :
      PortMove p { p with
        state := .live, expected := some (i + 1), run := run, backward := 0, test := test, overrunFill := fill + 1 }
  /-- R59: the oldest entry's next instant is taken. -/
  | taken (p : LinePort) : PortMove p { p with buffer := afterTake p.buffer }

/-! ## The trunk port (chapter 9) -/

/-- What one event can make of the trunk port: no bounded queue grows past its bound. -/
structure TrunkMove (old new : Trunk) : Prop where
  control : new.control.length ≤ max old.control.length 4
  pass : new.pass.length ≤ max old.pass.length 8
  reply : new.reply.length ≤ max old.reply.length 4
  notice : new.notice.length ≤ max old.notice.length 16

/-! ## The detector bank and the configuration banks (chapters 2, 4, 10) -/

/-- R59: what an instant taken makes of the detector bank, the switch included. -/
def State.bankInstant (s : State) (n : Instant) : State :=
  let s1 := if switchesAt (s.bankLine n.line).switch n.index then s.takeShadow n.line else s
  let s3 := s1.mapStations fun i x => if lineOf i = n.line then (s.flowOf n i).after else x
  s3.setBankLine n.line ((s3.bankLine n.line).took n)

/-- R57: what a line-leave makes of the detector bank, the switch included. -/
def State.bankLeft (s : State) (l : Line) : State :=
  let s1 := s.mapStations fun i x => if lineOf i = l then x.lineLeft else x
  let s2 := s1.setBankLine l { s1.bankLine l with live := false, leaves := (s1.bankLine l).leaves - 1 }
  if (s2.bankLine l).switch.isSome then s2.switchIdleLine l else s2

/-- R160: a switch completed, before its CONFIG request. -/
def State.exchanged (s : State) : State :=
  { s with
    ctrl := { s.ctrl with
      active := s.ctrl.shadow
      shadow := s.ctrl.active
      generation := s.ctrl.generation + 1
      scheduled := none
      marks := ⟨false, false, false⟩ }
    assoc := { s.assoc with inUse := .active }
    bank := { s.bank with lines :=
      ⟨{ s.bank.lines.a with inUse := .active }, { s.bank.lines.b with inUse := .active }⟩ } }

/-- The reports that are on their way are replaced. -/
def State.setReports (s : State) (rs : List SwitchReport) : State :=
  { s with ctrl := { s.ctrl with reports := rs } }

/-- The switched marks are replaced. -/
def State.setMarks (s : State) (m : SwitchedMarks) : State := { s with ctrl := { s.ctrl with marks := m } }

/-- R157: a switch is scheduled at the controller and passed to the associator, before the lines record it. -/
def State.withScheduled (s : State) (p : SwitchPoint) : State :=
  { s with
    ctrl := { s.ctrl with scheduled := some p, marks := ⟨false, false, false⟩ }
    assoc := { s.assoc with switch := some p } }

theorem State.schedule_eq (s : State) (p : SwitchPoint) :
    s.schedule p = ((s.withScheduled p).scheduleLine .a p).scheduleLine .b p := rfl

/-- R97: the associator takes the shadow bank into use and reports it. -/
def State.assocSwitched (s : State) : State :=
  { s with assoc := { s.assoc with inUse := .shadow, switch := none } }.sendReport .associator

/-- What one event can make of the detector bank, of the configuration banks and of the switch between them. -/
inductive BankMove : State → State → Prop
  | leaves (s : State) (l : Line) (n : Nat) : BankMove s (s.setBankLine l { s.bankLine l with leaves := n })
  | unreadRead (s : State) (first last : Nat) : BankMove s (s.removeUnread first last)
  | restarted (s : State) (first last : Nat) : BankMove s (s.restartRange first last)
  | instant (s : State) (n : Instant) : BankMove s (s.bankInstant n)
  | left (s : State) (l : Line) : BankMove s (s.bankLeft l)
  | stored (s : State) (b : Bank) (free : s.ctrl.scheduled = none)
      (range : s.ctrl.active.inRange → s.ctrl.shadow.inRange → b.inRange) : BankMove s (s.setShadow b)
  | scheduled (s : State) (p : SwitchPoint) (free : s.ctrl.scheduled = none) : BankMove s (s.schedule p)
  | withdrawn (s : State) (marks : s.ctrl.marks.any = false) (switched : s.someSwitched = false) :
      BankMove s s.withdraw
  | assocSwitched (s : State) (pending : s.assoc.switch.isSome = true) : BankMove s s.assocSwitched
  | discarded (s : State) (b : SwitchBlock) (r : SwitchReport) (rest : List SwitchReport)
      (found : takeReportOf b s.ctrl.reports = some (r, rest))
      (idle : r.cancelled = true ∨ s.ctrl.scheduled = none) : BankMove s (s.setReports rest)
  | marked (s : State) (b : SwitchBlock) (r : SwitchReport) (rest : List SwitchReport)
      (found : takeReportOf b s.ctrl.reports = some (r, rest)) (standing : r.cancelled = false)
      (pending : s.ctrl.scheduled.isSome = true) :
      BankMove s ((s.setReports rest).setMarks (s.ctrl.marks.mark r.block))
  | completed (s : State) (all : s.ctrl.marks = ⟨true, true, true⟩) : BankMove s s.exchanged

/-! ## The associator and the event channel (chapters 5 and 6) -/

/-- A pick list that a candidate can have after an event: one of a candidate, that with one pick of another station
behind it, or a single pick. -/
inductive PicksFrom (s : State) : List Pick → Prop
  | kept (k : Fin 16) (c : Candidate) (held : s.candidate k = some c) : PicksFrom s c.picks
  | joined (k : Fin 16) (c : Candidate) (p : Pick) (held : s.candidate k = some c)
      (other : ∀ q ∈ c.picks, q.station ≠ p.station) : PicksFrom s (c.picks ++ [p])
  | single (p : Pick) : PicksFrom s [p]

/-- The command is one of the two with which the associator takes an entry. -/
def takesEntry (i : Instr) : Prop := i = .associatorTakePick ∨ i = .associatorTakeLineMark

/-- What one event of the command `i` can make of the associator and the event channel. -/
inductive AssocMove (i : Instr) : State → State → Prop
  | slots (s : State) (slots : Vector (Option Candidate) 16) (order : Nat)
      (picks : ∀ (k : Fin 16) c, slots[k] = some c → PicksFrom s c.picks) :
      AssocMove i s { s with assoc := { s.assoc with slots := slots, openOrder := order } }
  | sent (s : State) (m : Message) (k : Fin 16) (c : Candidate) (taking : takesEntry i)
      (held : s.candidate k = some c) (picks : m.picks = c.picks) : AssocMove i s (s.send m)
  | dropped (s : State) : AssocMove i s s.dropMessage
  | viewed (s : State) (view : PerLine LineView) (w : Option Index) (taking : i = .associatorTakeLineMark) :
      AssocMove i s { s with assoc := { s.assoc with view := view, watermark := w } }

/-! ## The capture engine and the readout unit (chapters 7 and 8) -/

/-- What one event can make of a station entry of a capture section. -/
inductive EntryMove (c : CaptureSection) : StationEntry → StationEntry → Prop
  | bulk (e : StationEntry) (hit : Option Bool) (going : e.bulkDone = false) :
      EntryMove c e (bulkStep (indexPlus c.start e.bulkRead) (c.bulkLength e.boundary) hit e)
  | direct (e : StationEntry) (n : Index) (test filled : Bool) (going : e.directDone = false) :
      EntryMove c e (directStep n c.stop test filled e)
  | lost (e : StationEntry) : EntryMove c e (lineLostStep e)

/-- R104: a map entry is replaced. -/
def State.setMap (s : State) (k : Fin 16) (x : MapEntry) : State :=
  { s with capture := { s.capture with map := s.capture.map.set k x } }

/-- The record's station entries and state after an event at the entry of a station, before any request. -/
def State.entryChanged (s : State) (p : Fin 32) (r : Record) (c : CaptureSection) (ch : EntryChange)
    (state : RecordState) : State :=
  (s.setRecord p (some { r with state := state, capture := some { c with entries := ch.entries } })).returnBlocks
    ch.returned

/-- R111: the capture of a record reserved. -/
def State.reserved (s : State) (p : Fin 32) (r : Record) (m : DeclareMsg) (stations : List Station) : State :=
  let w := captureWindow m
  let t := s.setRecord p (some { r with capture := some { w with entries := s.planEntries w stations s.capture.freeList } })
  { t with capture := { t.capture with freeList := s.capture.freeList.drop (stations.length * w.blocksPerStation) } }

/-- What one event of a command run from `s0` can make of the capture engine and the readout unit. -/
inductive CaptureMove (s0 : State) : State → State → Prop
  | entry (s : State) (p : Fin 32) (r : Record) (c : CaptureSection) (st : Station) (f : StationEntry → StationEntry)
      (state : RecordState) (held : s.record p = some r) (capture : r.capture = some c)
      (move : ∀ e, r.entry st = some e → EntryMove c e (f e)) (chain : ∀ e, (f e).chain = e.chain)
      (station : ∀ e, (f e).station = e.station)
      (ready : state = r.state ∨ (r.state = .filling ∧ state = .ready ∧
        (c.changeEntry st f c.entries).entries.all StationEntry.complete = true)) :
      CaptureMove s0 s (s.entryChanged p r c (c.changeEntry st f c.entries) state)
  | freed (s : State) (p : Fin 32) (r : Record) (held : s.record p = some r)
      (state : r.state = .ready ∨ r.state = .filling) : CaptureMove s0 s (s.freeRecord p)
  | released (s : State) (p : Fin 32) (r : Record) (held : s.record p = some r) (state : r.state = .reading) :
      CaptureMove s0 s ((s.freeRecord p).setReadout { s.readout with record := none })
  | created (s : State) (p : Fin 32) (m : DeclareMsg) (free : s.record p = none)
      (message : .declare m ∈ s0.channel) : CaptureMove s0 s (s.createRecord p m)
  | placed (s : State) (p : Fin 32) (r : Record) (m : DeclareMsg) (stations : List Station)
      (held : s.record p = some r) (state : r.state = .active) (none : r.capture = none)
      (ascending : stations.Pairwise (fun i j => i < j))
      (enough : stations.length * (captureWindow m).blocksPerStation ≤ s.capture.freeList.length) :
      CaptureMove s0 s (s.reserved p r m stations)
  | absent (s : State) (p : Fin 32) (r : Record) (held : s.record p = some r) :
      CaptureMove s0 s (s.setRecord p (some { r with captureAbsent := true }))
  | unmapped (s : State) (k : Fin 16) (x : MapEntry) (none : ∀ p, x ≠ .record p) : CaptureMove s0 s (s.setMap k x)
  | closed (s : State) (p : Fin 32) (r : Record) (m : CloseMsg) (entry : s.capture.map[m.slot] = .record p)
      (held : s.record p = some r) (message : .close m ∈ s0.channel) :
      CaptureMove s0 s ((s.setMap m.slot .empty).setRecord p (some (r.closed m)))
  | readout (s : State) (x : Readout) (streaming : x.streaming = s.readout.streaming)
      (record : x.record = s.readout.record) : CaptureMove s0 s (s.setReadout x)
  | started (s : State) (p : Fin 32) (r : Record) (sel : Selection) (held : s.record p = some r)
      (state : r.state = .ready) (idle : s.readout.streaming = false) : CaptureMove s0 s (s.startReadout p r sel)
  | ended (s : State) : CaptureMove s0 s s.endReadout

/-! ## The whole part -/

/-- What one event of the command `i`, run from `s0`, can make of the part. -/
inductive Move (i : Instr) (s0 : State) : State → State → Prop
  | notices (s : State) (ns : List NoticeFrame) (fl : Flags) (lf : List Byte) (grow : noticesGrow s.trunk.notice ns) :
      Move i s0 s (s.withNotices ns fl lf)
  | port (s : State) (l : Line) (p : LinePort) (move : PortMove (s.port l) p) : Move i s0 s (s.setPort l p)
  | trunk (s : State) (t : Trunk) (move : TrunkMove s.trunk t) : Move i s0 s { s with trunk := t }
  | mem (s : State) (m : SampleMemory) (wf : Memory.wf s.mem = true → Memory.wf m = true) :
      Move i s0 s { s with mem := m }
  | queue (s : State) (q : List QueueEntry) : Move i s0 s { s with pickQueue := q }
  | pins (s : State) (x : Pins) : Move i s0 s { s with pins := x }
  | settings (s : State) (x : Settings) (silence : 1 ≤ x.silence ∧ x.silence ≤ 255) (gap : x.gap ≤ 64) :
      Move i s0 s (s.setSettings x)
  | bank (s t : State) (move : BankMove s t) : Move i s0 s t
  | assoc (s t : State) (move : AssocMove i s t) : Move i s0 s t
  | capture (s t : State) (move : CaptureMove s0 s t) : Move i s0 s t
  | engineReset (s : State) (row : i = .resetEngine) : Move i s0 s s.engineReset
  | fullReset (s : State) (row : i = .resetFull) : Move i s0 s s.fullReset
  | powerOn (s : State) (x : Pins) (unit : Nat) (row : i = .rstnAsserted ∨ ∃ u, i = .rstnReleased u) :
      Move i s0 s (s.powerOn x unit)

/-- A run of moves of one command. -/
def Moves (i : Instr) (s0 : State) : State → State → Prop := Relation.ReflTransGen (Move i s0)

/-- A predicate that every move of a command keeps is kept by a run of them. -/
theorem Moves.keep {i : Instr} {s0 s t : State} {P : State → Prop} (keeps : ∀ u v, Move i s0 u v → P u → P v)
    (run : Moves i s0 s t) (start : P s) : P t := by
  induction run with
  | refl => exact start
  | tail _ last ih => exact keeps _ _ last ih

theorem Moves.refl {i : Instr} {s0 s : State} : Moves i s0 s s := Relation.ReflTransGen.refl

theorem Moves.trans {i : Instr} {s0 s t u : State} (h : Moves i s0 s t) (h' : Moves i s0 t u) : Moves i s0 s u :=
  Relation.ReflTransGen.trans h h'

theorem Moves.single {i : Instr} {s0 s t : State} (h : Move i s0 s t) : Moves i s0 s t :=
  Relation.ReflTransGen.single h

theorem Moves.of_eq {i : Instr} {s0 s t : State} (h : t = s) : Moves i s0 s t := h ▸ .refl

/-! ## What a block's moves leave alone -/

theorem State.switchIdleLine_frame (s : State) (l : Line) : s.switchIdleLine l =
    { s with
      bank := (s.switchIdleLine l).bank
      ctrl := { s.ctrl with reports := (s.switchIdleLine l).ctrl.reports } } := rfl

theorem State.scheduleLine_frame (s : State) (l : Line) (p : SwitchPoint) : s.scheduleLine l p =
    { s with
      bank := (s.scheduleLine l p).bank
      ctrl := { s.ctrl with reports := (s.scheduleLine l p).ctrl.reports } } := by
  unfold State.scheduleLine
  dsimp only
  split_ifs
  · rfl
  · rw [State.switchIdleLine_frame]
    rfl

theorem BankMove.frame {s t : State} (move : BankMove s t) : t =
    { s with
      bank := t.bank
      assoc := { s.assoc with inUse := t.assoc.inUse, switch := t.assoc.switch }
      ctrl := { t.ctrl with
        settings := s.ctrl.settings, flags := s.ctrl.flags, lostFaults := s.ctrl.lostFaults } } := by
  cases move with
  | instant n => unfold State.bankInstant; split_ifs <;> rfl
  | left l =>
    unfold State.bankLeft
    dsimp only
    split_ifs
    · rw [State.switchIdleLine_frame]
      rfl
    · rfl
  | scheduled p =>
    rw [State.schedule_eq, State.scheduleLine_frame, State.scheduleLine_frame]
    rfl
  | _ => rfl

theorem AssocMove.frame {i : Instr} {s t : State} (move : AssocMove i s t) : t =
    { s with
      assoc := { t.assoc with inUse := s.assoc.inUse, switch := s.assoc.switch }
      channel := t.channel } := by
  cases move <;> rfl

theorem State.freeRecord_frame (s : State) (p : Fin 32) :
    s.freeRecord p = { s with capture := (s.freeRecord p).capture } := by
  unfold State.freeRecord
  split <;> rfl

theorem State.endReadout_frame (s : State) :
    s.endReadout = { s with capture := s.endReadout.capture, readout := s.endReadout.readout } := by
  unfold State.endReadout
  dsimp only
  split
  · rfl
  · split <;> rfl

theorem CaptureMove.frame {s0 s t : State} (move : CaptureMove s0 s t) : t =
    { s with capture := t.capture, readout := t.readout } := by
  cases move with
  | freed p r held state => rw [State.freeRecord_frame]
  | released p r held state => rw [State.freeRecord_frame]; rfl
  | ended => exact s.endReadout_frame
  | _ => rfl

end Sys2Proof.Machine
end

section
/-! PROOFS. The shared operations and the line ports' events as runs of moves (chapters 1 and 9). -/

namespace Sys2Proof.Machine

variable {i : Instr} {s0 : State}

/-! ## The notice path -/

theorem Moves.request (s : State) (n : Notice) : Moves i s0 s (s.request n) := by
  obtain ⟨ns, fl, lf, eq, grow, -, -⟩ := s.request_spec n
  exact eq ▸ .single (.notices s ns fl lf grow)

theorem Moves.requestAll (s : State) (ns : List Notice) : Moves i s0 s (s.requestAll ns) := by
  obtain ⟨q, fl, lf, eq, grow, -, -⟩ := State.requestAll_spec ns s
  exact eq ▸ .single (.notices s q fl lf grow)

theorem Moves.report (s : State) (f : Flag) (d : Byte) : Moves i s0 s (s.report f d) := by
  obtain ⟨ns, fl, lf, eq, grow, -, -⟩ := s.report_spec f d
  exact eq ▸ .single (.notices s ns fl lf grow)

theorem Moves.lostFaultsArrive (s : State) : Moves i s0 s s.lostFaultsArrive := by
  obtain ⟨ns, fl, eq, grow, -⟩ := s.lostFaultsArrive_spec
  exact eq ▸ .single (.notices s ns fl [] grow)

theorem Moves.idle (s : State) : Moves i s0 s s.idle := by
  obtain ⟨ns, fl, lf, eq, grow, -⟩ := s.idle_spec
  exact eq ▸ .single (.notices s ns fl lf grow)

theorem Moves.clearFlags (s : State) : Moves i s0 s s.clearFlags :=
  .single (.notices s s.trunk.notice Flags.clear s.ctrl.lostFaults (noticesGrow.refl _))

/-! ## Runs over a list -/

theorem Moves.foldl {α : Type} {f : State → α → State} (each : ∀ t a, Moves i s0 t (f t a)) :
    ∀ (as : List α) (s : State), Moves i s0 s (as.foldl f s)
  | [], _ => .refl
  | a :: as, s => (each s a).trans (Moves.foldl each as (f s a))

/-! ## The trunk port -/

theorem Moves.dropCommand (s : State) : Moves i s0 s s.dropCommand :=
  .single (.trunk s _ ⟨by simp, by simp, by simp, by simp⟩)

/-- R148, R150: a command is answered while the REPLY queue has a free place. -/
theorem Moves.answer {s : State} (room : s.trunk.reply.length < 4) (c : Command) (k : Completion)
    (rs : List Byte) : Moves i s0 s (s.answer c k rs) := by
  unfold State.answer
  split_ifs
  · exact .refl
  · exact .single (.trunk s _ ⟨by simp, by simp, by simp; omega, by simp⟩)

theorem Moves.setStaged (s : State) (d : Option DataFrame) : Moves i s0 s (s.setStaged d) :=
  .single (.trunk s _ ⟨by simp, by simp, by simp, by simp⟩)

theorem Moves.transmit (s : State) (kind : Byte) (payload : List Byte) :
    Moves i s0 s (s.transmit kind payload) :=
  .single (.trunk s _ ⟨by simp, by simp, by simp, by simp⟩)

theorem Moves.offerPass (s : State) (l : Line) (f : RxFrame) : Moves i s0 s (s.offerPass l f) := by
  unfold State.offerPass
  split_ifs with on full
  · exact Moves.report s _ _
  · have room : s.trunk.pass.length < 8 := by
      simp only [Config.passPlaces, not_or, not_le] at full
      exact full.2
    exact .single (.trunk s _ ⟨by simp, by simp; omega, by simp, by simp⟩)
  · exact .refl

/-! ## The line ports -/

theorem Moves.setPort (s : State) (l : Line) {p : LinePort} (move : PortMove (s.port l) p) :
    Moves i s0 s (s.setPort l p) := .single (.port s l p move)

theorem Moves.receive (s : State) (l : Line) (rx : List Byte) :
    Moves i s0 s (s.setPort l { s.port l with rx := rx }) :=
  Moves.setPort s l (.aside _ rx _ _ _ _ _ (by simp))

theorem Moves.restartSilence (s : State) (l : Line) : Moves i s0 s (s.restartSilence l) :=
  Moves.setPort s l (.aside _ _ _ _ (some s.ctrl.settings.silence) _ _ (by simp))

theorem Moves.lineNotice (s : State) (l : Line) (cause : LineCause) (x : Option Index) :
    Moves i s0 s (s.lineNotice l cause x) := Moves.request s _

theorem Moves.lineLeave (s : State) (l : Line) : Moves i s0 s (s.lineLeave l) :=
  (Moves.setPort s l (.emptied _)).trans
    (.single (.bank _ _ (.leaves (s.setPort l { s.port l with buffer := [], overrunFill := 0 }) l _)))

/-- R9, R12: the marker's request, the new fields of the port and the entry in the buffer are one move of the port
between notice requests. -/
theorem Moves.handOn (s : State) (l : Line) (p : LinePort) (f : SampleFrame) (fill run : Nat)
    (same : p = { s.port l with
      state := .live, expected := some (f.index + 1), run := run, backward := 0, overrunFill := 0 })
    (bridge : (s.port l).state ≠ .live ∨
      ∃ e, (s.port l).expected = some e ∧ fill = (f.index - e).toNat + (s.port l).overrunFill) :
    Moves i s0 s (((s.setPort l p).actMarker l f).bufferFrame l f fill) := by
  subst same
  rw [State.actMarker_setPort]
  refine (Moves.requestAll s (markerNotices l .live (s.port l).test f)).trans ?_
  generalize ht : s.requestAll (markerNotices l .live (s.port l).test f) = t
  have port : t.port l = s.port l := ht ▸ State.requestAll_port _ _ _
  rw [← port] at bridge ⊢
  unfold State.bufferFrame
  simp only [State.setPort_port_same, State.setPort_setPort, Config.inputPlaces]
  split_ifs with room
  · exact Moves.setPort t l (.handed _ l f.index fill run _ f.map bridge room)
  · exact (Moves.setPort t l (.overrun _ f.index fill run _ bridge room)).trans (Moves.report _ _ _)

theorem Moves.startSync {s : State} {l : Line} (x : Index)
    (empty : (s.port l).state ≠ .live ∨ (s.port l).buffer = []) : Moves i s0 s (s.startSync l x) :=
  Moves.setPort s l (.outside _ .sync _ _ _ _ empty)

theorem Moves.frameInDown {s : State} {l : Line} (f : SampleFrame) (down : (s.port l).state = .down) :
    Moves i s0 s (s.frameInDown l f) :=
  (Moves.startSync f.index (.inl (by simp [down]))).trans (Moves.lineNotice _ _ _ _)

theorem Moves.frameInSync {s : State} {l : Line} (f : SampleFrame) (sync : (s.port l).state = .sync) :
    Moves i s0 s (s.frameInSync l f) := by
  have notLive : (s.port l).state ≠ .live := by simp [sync]
  unfold State.frameInSync
  dsimp only
  split_ifs with contiguous complete
  · rw [State.lineNotice_setPort]
    refine (Moves.request s _).trans (Moves.handOn _ l _ f 0 ((s.port l).run + 1) ?_ (.inl ?_))
    · rw [State.request_port]
    · rwa [State.request_port]
  · have move := PortMove.outside (s.port l) .sync (some (f.index + 1)) ((s.port l).run + 1) (s.port l).backward
      (s.port l).silence (.inl notLive)
    exact Moves.setPort s l (sync ▸ move)
  · exact Moves.startSync f.index (.inl notLive)

/-- R10, R11: a frame that takes a LIVE line to SYNC. -/
theorem Moves.leaveToSync (s : State) (l : Line) (x : Index) (cause : LineCause) :
    Moves i s0 s (((s.lineLeave l).startSync l x).lineNotice l cause (some x)) :=
  ((Moves.lineLeave s l).trans (Moves.startSync x (.inr (by simp [State.lineLeave])))).trans
    (Moves.lineNotice _ _ _ _)

theorem Moves.frameInLive {s : State} {l : Line} (f : SampleFrame) (live : (s.port l).state = .live) :
    Moves i s0 s (s.frameInLive l f) := by
  unfold State.frameInLive
  dsimp only
  split
  · rename_i d handed
    refine Moves.handOn s l _ f _ (s.port l).run (by rw [← live]) (.inr ?_)
    unfold classify at handed
    split at handed
    · cases handed
    · rename_i e expected
      split_ifs at handed
      cases handed
      exact ⟨e, expected, rfl⟩
  · exact Moves.leaveToSync s l f.index _
  · split_ifs
    · exact Moves.leaveToSync s l f.index _
    · exact Moves.setPort s l (.aside _ _ _ _ _ _ ((s.port l).backward + 1) (by simp))

theorem Moves.acceptSample (s : State) (l : Line) (f : SampleFrame) : Moves i s0 s (s.acceptSample l f) := by
  refine (Moves.restartSilence s l).trans ?_
  have state : ((s.restartSilence l).port l).state = (s.port l).state := by simp [State.restartSilence]
  unfold State.acceptSample
  dsimp only
  split <;> rename_i line
  · exact Moves.frameInDown f (state.trans line)
  · exact Moves.frameInSync f (state.trans line)
  · exact Moves.frameInLive f (state.trans line)

theorem Moves.lineFrame (s : State) (l : Line) (f : RxFrame) : Moves i s0 s (s.lineFrame l f) := by
  unfold State.lineFrame
  split_ifs
  · split
    · exact (Moves.offerPass s l f).trans (Moves.acceptSample _ _ _)
    · exact .refl
  · exact Moves.offerPass s l f
  · exact .refl

theorem Moves.queueField (s : State) (l : Line) (f : InnerFrame) : Moves i s0 s (s.queueField l f) := by
  unfold State.queueField
  dsimp only
  split_ifs with room
  · have bounded : ((s.port l).fieldQueue ++ [f]).length ≤ max (s.port l).fieldQueue.length 4 := by
      simp only [Config.fieldPlaces] at room
      simp only [List.length_append, List.length_singleton]
      omega
    exact Moves.setPort s l (.aside _ _ _ _ _ _ _ bounded)
  · exact Moves.report s _ _

/-! ## Downlink and uplink -/

theorem Moves.offerCommand (s : State) (c : Command) : Moves i s0 s (s.offerCommand c) := by
  unfold State.offerCommand
  split_ifs with room
  · simp only [Config.controlPlaces] at room
    exact .single (.trunk s _ ⟨by simp; omega, by simp, by simp, by simp⟩)
  · exact Moves.report s _ _

theorem Moves.unitCommand (s : State) (payload : List Byte) : Moves i s0 s (s.unitCommand payload) := by
  unfold State.unitCommand
  split
  · split_ifs
    · exact Moves.offerCommand s _
    · exact .refl
  · exact .refl

theorem Moves.fieldCommand (s : State) (payload : List Byte) : Moves i s0 s (s.fieldCommand payload) := by
  unfold State.fieldCommand
  split
  · split_ifs
    · exact Moves.queueField s _ _
    · exact Moves.queueField s _ _
    · exact (Moves.queueField s _ _).trans (Moves.queueField _ _ _)
    · exact .refl
  · exact .refl

theorem Moves.downlinkFrame (s : State) (f : RxFrame) : Moves i s0 s (s.downlinkFrame f) := by
  unfold State.downlinkFrame
  split_ifs
  · exact Moves.unitCommand s _
  · exact Moves.fieldCommand s _
  · exact .refl

theorem Moves.setReadout {s : State} {x : Readout} (streaming : x.streaming = s.readout.streaming)
    (record : x.record = s.readout.record) : Moves i s0 s (s.setReadout x) :=
  .single (.capture _ _ (.readout s x streaming record))

theorem Moves.arbiterTake (s : State) : Moves i s0 s s.arbiterTake := by
  unfold State.arbiterTake
  split
  · rename_i f rest queue
    exact (Moves.single (.trunk s { s.trunk with pass := rest } ⟨by simp, by simp [queue], by simp, by simp⟩)).trans
      (Moves.transmit _ _ _)
  · split
    · rename_i f rest queue
      exact (Moves.single
        (.trunk s { s.trunk with reply := rest } ⟨by simp, by simp, by simp [queue], by simp⟩)).trans
        (Moves.transmit _ _ _)
    · split
      · rename_i f rest queue
        exact (Moves.single
          (.trunk s { s.trunk with notice := rest } ⟨by simp, by simp, by simp, by simp [queue]⟩)).trans
          (Moves.transmit _ _ _)
      · split
        · exact ((Moves.setStaged s none).trans
            (Moves.setReadout (by simp [Readout.counted]) (by simp [Readout.counted]))).trans
            (Moves.transmit _ _ _)
        · exact ((Moves.setStaged s none).trans (.single (.capture _ _ (.ended _)))).trans (Moves.transmit _ _ _)
        · exact .refl

end Sys2Proof.Machine
end

section
/-! PROOFS. The events of the detector bank and of the associator as runs of moves (chapters 4 to 6). -/

namespace Sys2Proof.Machine

variable {i : Instr} {s0 : State}

/-! ## An event at a station entry -/

theorem Moves.entryEvent (s : State) (p : Fin 32) (st : Station) (f : StationEntry → StationEntry)
    (move : ∀ r c e, s.record p = some r → r.capture = some c → r.entry st = some e → EntryMove c e (f e))
    (chain : ∀ e, (f e).chain = e.chain) (station : ∀ e, (f e).station = e.station) :
    Moves i s0 s (s.entryEvent p st f) := by
  obtain same | ⟨r, c, r', ns, fl, lf, held, capture, eq, grow, -, capture', eq', state⟩ := s.entryEvent_spec p st f
  · exact .of_eq same
  · have changed : (s.setRecord p (some r')).returnBlocks (c.changeEntry st f c.entries).returned =
        s.entryChanged p r c (c.changeEntry st f c.entries) r'.state := by
      rw [State.entryChanged, ← capture', ← eq']
    have complete : r'.allComplete = (c.changeEntry st f c.entries).entries.all StationEntry.complete := by
      simp only [Record.allComplete, Record.entries, capture']
    rw [eq, changed]
    rw [complete] at state
    exact (Moves.single (.capture _ _ (.entry s p r c st f r'.state held capture
      (fun e found => move r c e held capture found) chain station state))).trans (.single (.notices _ _ _ _ grow))

theorem Moves.mem (s : State) {m : SampleMemory} (wf : Memory.wf s.mem = true → Memory.wf m = true) :
    Moves i s0 s { s with mem := m } := .single (.mem s m wf)

theorem Moves.directWriteAt (n : Instant) (st : Station) (x : BlockPlace) (s : State) (p : Fin 32) :
    Moves i s0 s (s.directWriteAt n st x p) := by
  unfold State.directWriteAt
  split
  · exact .refl
  · rename_i r held
    split
    · rename_i c e capture found
      split_ifs with going
      · rw [Bool.and_eq_true, Bool.not_eq_true'] at going
        refine (Moves.mem s (SampleMemory.writeChain_wf _ _ _)).trans
          (Moves.entryEvent _ p st _ (fun r' c' e' held' capture' found' => ?_) (fun _ => rfl) (fun _ => rfl))
        have sameRecord : r' = r := Option.some.inj (held'.symm.trans held)
        subst sameRecord
        have sameSection : c' = c := Option.some.inj (capture'.symm.trans capture)
        have sameEntry : e' = e := Option.some.inj (found'.symm.trans found)
        subst sameSection sameEntry
        exact .direct _ _ _ _ going.2
      · exact .refl
    · exact .refl

theorem Moves.stationEffects (n : Instant) (before : Station → StationState) (flow : Station → StationFlow)
    (s : State) (j : Station) : Moves i s0 s (s.stationEffects n before flow j) := by
  rw [State.stationEffects_eq]
  refine (Moves.requestAll s ((flow j).changeNotice n j).toList).trans
    ((Moves.mem _ (m := s.mem.writeRing j n.index (n.ringSlotOf j (before j))) fun wf => ?_).trans
      (Moves.foldl (Moves.directWriteAt n j _) allPlaces _))
  rw [State.requestAll_mem] at wf
  exact SampleMemory.writeRing_wf _ _ _ wf

/-! ## The detector bank's own state moved in front of an instant's effects

The effects of an instant outside the detector bank do not read the bank, so that what the instant makes of the bank
may be made before them. -/

/-- The state with another detector bank and other reports on their way. -/
def State.withBank (s : State) (b : DetectorBank) (rs : List SwitchReport) : State :=
  { s with bank := b, ctrl := { s.ctrl with reports := rs } }

section WithBank
variable (s : State) (b : DetectorBank) (rs : List SwitchReport)

theorem State.request_withBank (n : Notice) : (s.withBank b rs).request n = (s.request n).withBank b rs := by
  have dropped : (s.withBank b rs).noticeDropped n = s.noticeDropped n := rfl
  rw [State.request, State.request, dropped]
  split_ifs
  · unfold State.noticeLost
    split_ifs with h h' h'
    · rfl
    · exact absurd h h'
    · exact absurd h' h
    · rfl
  · unfold State.offerNotice
    split_ifs with h h' h'
    · rfl
    · exact absurd h h'
    · exact absurd h' h
    · rfl

theorem State.entryEvent_withBank (p : Fin 32) (st : Station) (f : StationEntry → StationEntry) :
    (s.withBank b rs).entryEvent p st f = (s.entryEvent p st f).withBank b rs := by
  have record : (s.withBank b rs).record p = s.record p := rfl
  unfold State.entryEvent
  rw [record]
  split
  · rfl
  · split
    · rfl
    · dsimp only
      split_ifs
      · exact State.request_withBank ((s.setRecord p _).returnBlocks _) b rs _
      · rfl

theorem State.directWriteAt_withBank (n : Instant) (st : Station) (x : BlockPlace) (p : Fin 32) :
    (s.withBank b rs).directWriteAt n st x p = (s.directWriteAt n st x p).withBank b rs := by
  have record : (s.withBank b rs).record p = s.record p := rfl
  unfold State.directWriteAt
  rw [record]
  split
  · rfl
  · split
    · split_ifs
      · exact State.entryEvent_withBank { s with mem := _ } b rs p st _
      · rfl
    · rfl

theorem State.stationEffects_withBank (n : Instant) (before : Station → StationState)
    (flow : Station → StationFlow) (j : Station) :
    (s.withBank b rs).stationEffects n before flow j = (s.stationEffects n before flow j).withBank b rs := by
  have writes (x : BlockPlace) (t : State) :
      (t.withBank b rs).directWrites n j x = (t.directWrites n j x).withBank b rs :=
    List.foldl_hom (f := fun t : State => t.withBank b rs) fun t p => State.directWriteAt_withBank t b rs n j x p
  have requests (xs : List Notice) (t : State) : (t.withBank b rs).requestAll xs = (t.requestAll xs).withBank b rs :=
    List.foldl_hom (f := fun t : State => t.withBank b rs) fun t x => State.request_withBank t b rs x
  rw [State.stationEffects_eq, State.stationEffects_eq, requests]
  exact writes _ { s.requestAll ((flow j).changeNotice n j).toList with mem := _ }

end WithBank

/-- R37, R60: the detector bank after an instant that makes `after` of the stations of its line. -/
def DetectorBank.tookInstant (b : DetectorBank) (n : Instant) (after : Station → StationState) : DetectorBank :=
  { stations := tabulate fun j => if lineOf j = n.line then after j else b.stations[j]
    lines := b.lines.set n.line ((b.lines.get n.line).took n) }

/-- R59: the port of an instant's line, without the instant. -/
def State.withoutInstant (s : State) (n : Instant) : State :=
  s.setPort n.line { s.port n.line with buffer := afterTake (s.port n.line).buffer }

theorem State.begun_withBank (s : State) (n : Instant) :
    ∃ b rs, s.begun n = (s.withoutInstant n).withBank b rs := by
  unfold State.begun
  dsimp only
  split_ifs
  · exact ⟨_, _, rfl⟩
  · exact ⟨s.bank, s.ctrl.reports, rfl⟩

theorem State.bankInstant_withoutInstant (s : State) (n : Instant) : (s.withoutInstant n).bankInstant n =
    ((s.begun n).mapStations fun i x => if lineOf i = n.line then (s.flowOf n i).after else x).setBankLine n.line
      (((s.begun n).bankLine n.line).took n) := rfl

/-- R59: an instant taken, with what it makes of the detector bank first. -/
theorem State.takeWhole_bankFirst (s : State) (n : Instant) : s.takeWhole n =
    (((stationsOf n.line).foldl (State.stationEffects n s.station (s.flowOf n))
      ((s.withoutInstant n).bankInstant n)).postPicks (s.picksOf n)).postMark ⟨n.line, true, some n.index, false⟩ := by
  have moved (t : State) (b : DetectorBank) (rs : List SwitchReport) :
      (stationsOf n.line).foldl (State.stationEffects n s.station (s.flowOf n)) (t.withBank b rs) =
        ((stationsOf n.line).foldl (State.stationEffects n s.station (s.flowOf n)) t).withBank b rs :=
    List.foldl_hom (f := fun t : State => t.withBank b rs) fun t j => State.stationEffects_withBank t b rs n _ _ j
  obtain ⟨b, rs, begun⟩ := s.begun_withBank n
  have first : (s.withoutInstant n).bankInstant n =
      (s.withoutInstant n).withBank (b.tookInstant n fun j => (s.flowOf n j).after) rs := by
    rw [State.bankInstant_withoutInstant, begun]
    rfl
  rw [first, moved, State.takeWhole_eq, State.worked, begun, moved]
  rfl

/-! ## Instants and line-leaves -/

theorem Moves.postMark (s : State) (m : LineMark) : Moves i s0 s (s.postMark m) := .single (.queue s _)

theorem Moves.postPick (s : State) (p : Pick) : Moves i s0 s (s.postPick p) := by
  unfold State.postPick
  split_ifs
  · exact .single (.queue s _)
  · exact Moves.report s _ _

theorem Moves.takeWhole (s : State) (n : Instant) : Moves i s0 s (s.takeWhole n) := by
  rw [State.takeWhole_bankFirst]
  exact ((Moves.setPort s n.line (.taken _)).trans ((Moves.single (.bank _ _ (.instant (s.withoutInstant n) n))).trans
    ((Moves.foldl (Moves.stationEffects n _ _) _ _).trans (Moves.foldl Moves.postPick _ _)))).trans
      (Moves.postMark _ _)

theorem Moves.takeWith (s : State) (j : Station) (t : Transition) : Moves i s0 s (s.takeWith j t) := by
  unfold State.takeWith
  split
  · split_ifs
    · exact Moves.takeWhole s _
    · exact .refl
  · exact .refl

theorem lineLostStep_chain (e : StationEntry) : (lineLostStep e).chain = e.chain := by
  unfold lineLostStep
  split_ifs <;> rfl

theorem lineLostStep_station (e : StationEntry) : (lineLostStep e).station = e.station := by
  unfold lineLostStep
  split_ifs <;> rfl

theorem Moves.loseStation (s : State) (st : Station) : Moves i s0 s (s.loseStation st) :=
  Moves.foldl (fun t p => Moves.entryEvent t p st lineLostStep (fun _ _ e _ _ _ => .lost e) lineLostStep_chain
    lineLostStep_station) allPlaces s

theorem Moves.performLeave (s : State) (l : Line) : Moves i s0 s (s.performLeave l) :=
  ((Moves.single (.bank _ _ (.left s l))).trans (Moves.foldl Moves.loseStation (stationsOf l) (s.bankLeft l))).trans
    (Moves.postMark _ _)

end Sys2Proof.Machine
end

section
/-! PROOFS. The events of the associator and of the capture engine as runs of moves (chapters 5 to 7). -/

namespace Sys2Proof.Machine

variable {i : Instr} {s0 : State}

/-! ## Candidates -/

theorem Moves.setCandidate (s : State) (k : Fin 16) (x : Option Candidate)
    (picks : ∀ c, x = some c → PicksFrom s c.picks) : Moves i s0 s (s.setCandidate k x) := by
  refine .single (.assoc _ _ (.slots s (s.assoc.slots.set k x) s.assoc.openOrder fun j c held => ?_))
  have view : (s.setCandidate k x).candidate j = some c := held
  rw [State.setCandidate_candidate] at view
  split_ifs at view with same
  · exact picks c view
  · exact .kept j c view

theorem Moves.send {s : State} {m : Message} {k : Fin 16} {c : Candidate} (taking : takesEntry i)
    (held : s.candidate k = some c) (picks : m.picks = c.picks) : Moves i s0 s (s.send m) :=
  .single (.assoc _ _ (.sent s m k c taking held picks))

theorem Candidate.extend_picks (c : Candidate) (a : AssocParams) : (c.extend a).picks = c.picks := by
  unfold Candidate.extend
  split_ifs <;> rfl

theorem Moves.joinCandidate {s : State} {k : Fin 16} {c : Candidate} {p : Pick} (taking : takesEntry i)
    (held : s.candidate k = some c) (other : ∀ q ∈ c.picks, q.station ≠ p.station) :
    Moves i s0 s (s.joinCandidate k c p) := by
  have joins (x : Candidate) (picks : x.picks = c.picks ++ [p]) : Moves i s0 s (s.setCandidate k (some x)) := by
    refine Moves.setCandidate s k _ fun y same => ?_
    cases same
    rw [picks]
    exact .joined k c p held other
  unfold State.joinCandidate
  dsimp only
  split
  · exact joins _ (Candidate.extend_picks _ _)
  · split_ifs
    · refine (joins { c.join p _ with state := .declared } rfl).trans
        (Moves.send (k := k) (c := { c.join p _ with state := .declared }) taking ?_ rfl)
      rw [State.setCandidate_candidate, if_pos rfl]
    · exact joins _ rfl

/-- R82: renumbering changes no candidate's pick list. -/
theorem Associator.renumber_picks (a : Associator) (k : Fin 16) (c : Candidate) (held : a.renumber.slots[k] = some c) :
    ∃ x, a.slots[k] = some x ∧ c.picks = x.picks := by
  unfold Associator.renumber at held
  split_ifs at held
  · simp only [Fin.getElem_fin, tabulate_get, Option.map_eq_some_iff] at held
    obtain ⟨x, heldx, rfl⟩ := held
    exact ⟨x, heldx, rfl⟩
  · exact ⟨c, held, rfl⟩

theorem Associator.renumber_frame (a : Associator) :
    a.renumber = { a with slots := a.renumber.slots, openOrder := a.renumber.openOrder } := by
  unfold Associator.renumber
  split_ifs <;> rfl

theorem Moves.openCandidate (s : State) (p : Pick) : Moves i s0 s (s.openCandidate p) := by
  unfold State.openCandidate
  split
  · exact Moves.report s _ _
  · rename_i k _
    dsimp only
    rw [Associator.renumber_frame]
    refine .single (.assoc _ _ (.slots s _ _ fun j c held => ?_))
    by_cases same : j = k
    · subst same
      simp only [Fin.getElem_fin, Vector.getElem_set_self, Option.some.injEq] at held
      subst held
      exact .single p
    · rw [Fin.getElem_fin, Vector.getElem_set_ne (h := fun h => same (Fin.ext h.symm))] at held
      obtain ⟨x, heldx, picks⟩ := s.assoc.renumber_picks j c held
      exact picks ▸ .kept j x heldx

theorem Moves.closeCandidate {s : State} {k : Fin 16} {c : Candidate} (taking : takesEntry i)
    (held : s.candidate k = some c) (switchClosed : Bool) :
    Moves i s0 s (s.closeCandidate switchClosed k c) := by
  unfold State.closeCandidate
  split
  · exact Moves.setCandidate s k none (fun c same => by cases same)
  · exact (Moves.send taking held rfl).trans (Moves.setCandidate _ k none (fun c same => by cases same))

theorem Moves.closeWhere (taking : takesEntry i) (switchClosed : Bool) (test : Candidate → Bool) :
    ∀ (fuel : Nat) (s : State), Moves i s0 s (s.closeWhere switchClosed test fuel)
  | 0, _ => .refl
  | fuel + 1, s => by
    unfold State.closeWhere
    split
    · exact .refl
    · rename_i k c found
      exact (Moves.closeCandidate taking (lowestOrder_some found).1 switchClosed).trans
        (Moves.closeWhere taking switchClosed test fuel _)

/-- Closing candidates leaves the associator's other fields alone. -/
theorem State.closeWhere_switch (switchClosed : Bool) (test : Candidate → Bool) :
    ∀ (fuel : Nat) (s : State), (s.closeWhere switchClosed test fuel).assoc.switch = s.assoc.switch
  | 0, _ => rfl
  | fuel + 1, s => by
    unfold State.closeWhere
    split
    · rfl
    · rw [State.closeWhere_switch switchClosed test fuel]
      unfold State.closeCandidate
      split <;> rfl

theorem entrySwitches_isSome {sw : Option SwitchPoint} {e : QueueEntry} (switches : entrySwitches sw e = true) :
    sw.isSome = true := by
  cases sw with
  | none => cases switches
  | some x => rfl

theorem Moves.assocSwitchFor (taking : takesEntry i) (s : State) (e : QueueEntry) :
    Moves i s0 s (s.assocSwitchFor e) := by
  unfold State.assocSwitchFor
  split_ifs with switches
  · refine (Moves.closeWhere taking true (fun _ => true) 16 s).trans (.single (.bank _ _ (.assocSwitched _ ?_)))
    rw [State.closeWhere_switch]
    exact entrySwitches_isSome switches
  · exact .refl

theorem Moves.dropEntry (s : State) : Moves i s0 s s.dropEntry := .single (.queue s _)

theorem Moves.handlePick (taking : takesEntry i) (s : State) (p : Pick) : Moves i s0 s (s.handlePick p) := by
  unfold State.handlePick
  split_ifs
  · split
    · rename_i k c found
      obtain ⟨held, admits, -⟩ := lowestOrder_some found
      exact Moves.joinCandidate taking held ((c.admits_iff _ _ _).mp admits).1
    · exact Moves.openCandidate s p
  · exact .refl

theorem Moves.viewStep (taking : i = .associatorTakeLineMark) (s : State) (l : Line) (v : LineView) :
    Moves i s0 s (s.viewStep l v) := by
  have viewed : Moves i s0 s
      { s with assoc := { s.assoc with
        view := s.assoc.view.set l v, watermark := watermarkAfter s.assoc.watermark (s.assoc.view.set l v) } } :=
    .single (.assoc _ _ (.viewed s _ _ taking))
  unfold State.viewStep
  dsimp only
  split_ifs
  · exact viewed
  · split
    · exact viewed
    · exact viewed.trans (Moves.closeWhere (.inr taking) false _ 16 _)

theorem Moves.handleMark (taking : i = .associatorTakeLineMark) (s : State) (m : LineMark) :
    Moves i s0 s (s.handleMark m) := by
  unfold State.handleMark
  split_ifs
  · exact (Moves.viewStep taking s _ _).trans (Moves.viewStep taking _ _ _)
  · exact Moves.viewStep taking s _ _
  · exact Moves.viewStep taking s _ _

/-! ## DECLARE messages -/

theorem Moves.freeRecord {s : State} {p : Fin 32} {r : Record} (held : s.record p = some r)
    (state : r.state = .ready ∨ r.state = .filling) : Moves i s0 s (s.freeRecord p) :=
  .single (.capture _ _ (.freed s p r held state))

theorem Moves.obtainPlace (s : State) : Moves i s0 s s.obtainPlace.state := by
  unfold State.obtainPlace
  split
  · exact .refl
  · split
    · exact .refl
    · split
      · rename_i found
        obtain ⟨held, ready, -⟩ := State.oldestReady_some found
        exact Moves.freeRecord held (.inl ready)
      · exact .refl

theorem State.freePlace_some {s : State} {p : Fin 32} (found : s.freePlace = some p) : s.record p = none := by
  have isNone := List.find?_some (p := fun p => (s.record p).isNone) found
  exact Option.isNone_iff_eq_none.mp isNone

/-- R106: the place that a declaration obtains is FREE. -/
theorem State.obtainPlace_free {s : State} {p : Fin 32} (obtained : s.obtainPlace.place = some p) :
    s.obtainPlace.state.record p = none := by
  unfold State.obtainPlace at obtained ⊢
  split at obtained
  · rename_i q found
    cases obtained
    exact State.freePlace_some found
  · split at obtained
    · cases obtained
    · split at obtained
      · rename_i found
        cases obtained
        dsimp only
        rw [State.freeRecord_record _ _ _ _ (State.oldestReady_some found).1, if_pos rfl]
      · cases obtained

theorem Moves.makeRoom (need : Nat) : ∀ (fuel : Nat) (s : State), Moves i s0 s (s.makeRoom need fuel).state
  | 0, _ => .refl
  | fuel + 1, s => by
    unfold State.makeRoom
    split_ifs
    · exact .refl
    · split
      · exact .refl
      · split
        · exact .refl
        · rename_i found
          obtain ⟨held, ready, -⟩ := State.oldestReady_some found
          exact (Moves.freeRecord held (.inl ready)).trans (Moves.makeRoom need fuel _)

theorem State.makeRoom_ok (need : Nat) : ∀ (fuel : Nat) (s : State), (s.makeRoom need fuel).ok = true →
    need ≤ (s.makeRoom need fuel).state.capture.freeList.length
  | 0, _, ok => of_decide_eq_true ok
  | fuel + 1, s, ok => by
    unfold State.makeRoom at ok ⊢
    split_ifs with enough
    · exact enough
    · simp only [enough, ↓reduceIte] at ok
      split at ok
      · cases ok
      · split at ok
        · cases ok
        · exact State.makeRoom_ok need fuel _ ok

/-- A record that is ACTIVE without a capture section. -/
def State.activeBare (s : State) (p : Fin 32) : Prop :=
  ∃ r, s.record p = some r ∧ r.state = .active ∧ r.capture = none

theorem State.activeBare.freeRecord {s : State} {p q : Fin 32} {x : Record} (bare : s.activeBare p)
    (held : s.record q = some x) (ready : x.state = .ready) : (s.freeRecord q).activeBare p := by
  obtain ⟨r, heldr, active, capture⟩ := bare
  have other : p ≠ q := by
    rintro rfl
    rw [held, Option.some.injEq] at heldr
    rw [heldr, active] at ready
    cases ready
  refine ⟨if x.order < r.order then { r with order := r.order - 1 } else r, ?_, ?_, ?_⟩
  · rw [State.freeRecord_record _ _ _ _ held, if_neg other, heldr, Option.map_some]
  · split_ifs <;> exact active
  · split_ifs <;> exact capture

/-- R111: making room frees READY records only, so the record just created stays. -/
theorem State.activeBare.makeRoom {p : Fin 32} (need : Nat) : ∀ (fuel : Nat) (s : State), s.activeBare p →
    (s.makeRoom need fuel).state.activeBare p
  | 0, _, bare => bare
  | fuel + 1, s, bare => by
    unfold State.makeRoom
    split_ifs
    · exact bare
    · split
      · exact bare
      · split
        · exact bare
        · rename_i found
          obtain ⟨held, ready, -⟩ := State.oldestReady_some found
          exact State.activeBare.makeRoom need fuel _ (bare.freeRecord held ready)

theorem allStations_pairwise : allStations.Pairwise (fun i j => i < j) := by
  rw [allStations, List.pairwise_ofFn]
  exact fun _ _ below => below

theorem State.captureStations_pairwise (s : State) (m : DeclareMsg) :
    (s.captureStations m).Pairwise (fun i j => i < j) := allStations_pairwise.filter _

theorem Moves.planCapture {s : State} {p : Fin 32} (m : DeclareMsg) (bare : s.activeBare p) :
    Moves i s0 s (s.planCapture p m).1 := by
  unfold State.planCapture
  dsimp only
  refine (Moves.makeRoom ((s.captureStations m).length * (captureWindow m).blocksPerStation) 32 s).trans ?_
  obtain ⟨r, held, active, capture⟩ := bare.makeRoom
    ((s.captureStations m).length * (captureWindow m).blocksPerStation) 32 s
  split_ifs with ok
  · rw [State.placeCapture, held]
    exact .single (.capture _ _ (.placed _ p r m _ held active capture (s.captureStations_pairwise m)
      (State.makeRoom_ok _ _ _ ok)))
  · rw [State.markAbsent, held]
    exact (Moves.single (.capture _ _ (.absent _ p r held))).trans (Moves.report _ _ _)

theorem State.createRecord_activeBare (s : State) (p : Fin 32) (m : DeclareMsg) :
    (s.createRecord p m).activeBare p :=
  ⟨_, Vector.getElem_set_self _, rfl, rfl⟩

theorem Moves.declareAt {s : State} {p : Fin 32} {m : DeclareMsg} (free : s.record p = none)
    (message : .declare m ∈ s0.channel) (recycled : List Nat) : Moves i s0 s (s.declareAt p m recycled) := by
  have created : Moves i s0 s (s.createRecord p m) := .single (.capture _ _ (.created s p m free message))
  have planned : Moves i s0 s
      (if m.captureEnable then (s.createRecord p m).planCapture p m else (s.createRecord p m, [])).1 := by
    split_ifs
    · exact created.trans (Moves.planCapture m (s.createRecord_activeBare p m))
    · exact created
  unfold State.declareAt
  dsimp only
  split
  · exact (planned.trans (Moves.requestAll _ _)).trans (Moves.request _ _)
  · exact planned.trans (Moves.requestAll _ _)

theorem Moves.setMap (s : State) (k : Fin 16) {x : MapEntry} (none : ∀ p, x ≠ .record p) :
    Moves i s0 s (s.setMap k x) := .single (.capture _ _ (.unmapped s k x none))

theorem Moves.leaveUnrecorded (s : State) (m : DeclareMsg) : Moves i s0 s (s.leaveUnrecorded m) :=
  ((Moves.setMap s m.slot (x := .unrecorded) (fun p same => by cases same)).trans (Moves.report _ _ _)).trans
    (Moves.request _ _)

theorem Moves.handleDeclare {s : State} {m : DeclareMsg} (message : .declare m ∈ s0.channel) :
    Moves i s0 s (s.handleDeclare m) := by
  unfold State.handleDeclare
  dsimp only
  refine (Moves.obtainPlace s).trans ?_
  split
  · rename_i p obtained
    exact Moves.declareAt (State.obtainPlace_free obtained) message _
  · exact Moves.leaveUnrecorded _ m

/-! ## CLOSE messages and bulk copies -/

theorem Moves.handleClose {s : State} {m : CloseMsg} (message : .close m ∈ s0.channel) :
    Moves i s0 s (s.handleClose m) := by
  have emptied : Moves i s0 s (s.setMap m.slot .empty) := Moves.setMap s m.slot fun p same => by cases same
  unfold State.handleClose
  dsimp only
  split
  · exact emptied
  · unfold State.closeUnrecorded
    split
    · exact emptied
    · exact emptied.trans (Moves.request _ _)
  · rename_i p entry
    split
    · rename_i r held
      rw [State.closeRecord_eq]
      exact (Moves.single (.capture _ _ (.closed s p r m entry held message))).trans (Moves.requestAll _ _)
    · exact emptied

theorem bulkStep_chain (x : Index) (length : Nat) (hit : Option Bool) (e : StationEntry) :
    (bulkStep x length hit e).chain = e.chain := by
  unfold bulkStep
  split <;> rfl

theorem bulkStep_station (x : Index) (length : Nat) (hit : Option Bool) (e : StationEntry) :
    (bulkStep x length hit e).station = e.station := by
  unfold bulkStep
  split <;> rfl

theorem Moves.bulkReadAt (s : State) (p : Fin 32) (st : Station) : Moves i s0 s (s.bulkReadAt p st) := by
  unfold State.bulkReadAt
  split
  · exact .refl
  · rename_i r held
    split
    · rename_i c e capture found
      split_ifs with done
      · exact .refl
      · unfold State.bulkRead
        dsimp only
        refine (Moves.mem s fun wf => ?_).trans (Moves.entryEvent _ p st _ (fun r' c' e' held' capture' found' => ?_)
          (bulkStep_chain _ _ _) (bulkStep_station _ _ _))
        · split_ifs
          · exact SampleMemory.writeChain_wf _ _ _ wf
          · exact wf
        · have sameRecord : r' = r := Option.some.inj (held'.symm.trans held)
          subst sameRecord
          have sameSection : c' = c := Option.some.inj (capture'.symm.trans capture)
          have sameEntry : e' = e := Option.some.inj (found'.symm.trans found)
          subst sameSection sameEntry
          exact .bulk _ _ (Bool.not_eq_true _ ▸ done)
    · exact .refl

end Sys2Proof.Machine
end

section
/-! PROOFS. The recorder's commands, and every command of the part, as runs of moves (chapters 8 to 10). -/

namespace Sys2Proof.Machine

variable {i : Instr} {s0 : State}

/-! ## Taking and answering a command -/

theorem Moves.whileReleased {s t u : State} (next : s.whileReleased u = .next t) (run : Moves i s0 s u) :
    Moves i s0 s t := by
  unfold State.whileReleased at next
  cases next
  split_ifs
  · exact run
  · exact .refl

/-- R148: a row that takes a command makes of the part what its execution makes of it; the command leaves the buffer
first, and the REPLY queue has a free place. -/
theorem Moves.takeCommand {s t : State} {mine : Command → Bool} {run : Command → State → State}
    (next : s.takeCommand mine run = .next t)
    (runs : ∀ c u, u.trunk.reply.length < 4 → Moves i s0 u (run c u)) : Moves i s0 s t := by
  obtain rfl | ⟨c, ⟨-, -, room⟩, -, rfl⟩ := State.takeCommand_cases next
  · exact .refl
  · exact (Moves.dropCommand s).trans (runs c s.dropCommand room)

/-- R150: what a command does and then its reply. -/
theorem Moves.answered {s t : State} (run : Moves i s0 s t) (room : s.trunk.reply.length < 4)
    (reply : t.trunk.reply = s.trunk.reply) (c : Command) (k : Completion) (rs : List Byte) :
    Moves i s0 s (t.answer c k rs) := run.trans (Moves.answer (reply ▸ room) c k rs)

theorem Moves.withLength {s t : State} (room : s.trunk.reply.length < 4) (c : Command) (n : Nat)
    (run : Moves i s0 s t) : Moves i s0 s (s.withLength c n t) := by
  unfold State.withLength
  split_ifs
  · exact run
  · exact Moves.answer room c _ _

theorem Moves.onRange {s : State} (room : s.trunk.reply.length < 4) (c : Command) {run : Nat → Nat → State}
    (runs : ∀ first last, Moves i s0 s (run first last)) : Moves i s0 s (s.onRange c run) := by
  unfold State.onRange
  refine Moves.withLength room c 2 ?_
  split_ifs
  · exact runs _ _
  · exact Moves.answer room c _ _

/-! ## Settings and tables (R151, R154 to R156) -/

theorem readSettings_inRange (bs : List Byte) :
    (1 ≤ (readSettings bs).value.silence ∧ (readSettings bs).value.silence ≤ 255) ∧
      (readSettings bs).value.gap ≤ 64 :=
  ⟨clampTo_mem (by decide) _, (clampTo_mem (by decide) _).2⟩

theorem Moves.loadInto {s : State} (room : s.trunk.reply.length < 4) (c : Command) (t : TableId) :
    Moves i s0 s (s.loadInto c t) := by
  unfold State.loadInto
  dsimp only
  split_ifs with outside length scheduled
  · exact Moves.answer room c _ _
  · exact Moves.answer room c _ _
  · exact Moves.answer room c _ _
  · exact Moves.answered (.single (.bank _ _ (.stored s _ (by simpa using scheduled) fun _ shadow =>
      Bank.loadAll_inRange t _ _ shadow _)))
      room rfl c _ _

theorem Moves.reportTable {s : State} (room : s.trunk.reply.length < 4) (c : Command) :
    Moves i s0 s (s.reportTable c) := by
  unfold State.reportTable
  split
  · split_ifs
    · exact Moves.answer room c _ _
    · exact Moves.answer room c _ _
  · exact Moves.answer room c _ _

/-! ## The bank switch (R157 to R160) -/

theorem State.schedule_trunk (s : State) (p : SwitchPoint) : (s.schedule p).trunk = s.trunk := by
  rw [State.schedule_eq, State.scheduleLine_frame, State.scheduleLine_frame]
  rfl

theorem State.completeSwitch_eq (s : State) :
    s.completeSwitch = s.exchanged.lostFaultsArrive.request (.switchComplete s.exchanged.ctrl.generation) := rfl

theorem Moves.takeReport {s : State} {b : SwitchBlock} {r : SwitchReport} {rest : List SwitchReport}
    (found : takeReportOf b s.ctrl.reports = some (r, rest)) :
    Moves i s0 s ((s.setReports rest).takeReport r) := by
  have arrived (standing : r.cancelled = false) (pending : s.ctrl.scheduled.isSome = true) :
      Moves i s0 s ((s.setReports rest).setMarks (s.ctrl.marks.mark r.block)) :=
    .single (.bank _ _ (.marked s b r rest found standing pending))
  unfold State.takeReport
  split_ifs with discarded
  · rw [Bool.or_eq_true, Option.isNone_iff_eq_none] at discarded
    exact .single (.bank _ _ (.discarded s b r rest found discarded))
  · rw [Bool.or_eq_true, not_or, Bool.not_eq_true, Option.isNone_iff_eq_none, ← ne_eq, ← Option.isSome_iff_ne_none]
      at discarded
    have marked := arrived discarded.1 discarded.2
    dsimp only
    split_ifs with all
    · simp only [Bool.and_eq_true] at all
      obtain ⟨⟨lineA, lineB⟩, associator⟩ := all
      rw [State.completeSwitch_eq]
      refine ((marked.trans (.single (.bank _ _ (.completed _ ?_)))).trans (Moves.lostFaultsArrive _)).trans
        (Moves.request _ _)
      exact SwitchedMarks.mk.injEq .. ▸ ⟨lineA, lineB, associator⟩
    · exact marked

/-! ## Readout and release (chapter 8) -/

theorem Moves.stageEnd (s : State) : Moves i s0 s s.stageEnd :=
  (Moves.setReadout (x := { s.readout with endStaged := true }) rfl rfl).trans (Moves.setStaged _ _)

theorem Moves.cancelReadout (s : State) : Moves i s0 s s.cancelReadout := by
  unfold State.cancelReadout
  split_ifs
  · exact Moves.setReadout rfl rfl
  · exact (Moves.setReadout (x := { s.readout with cancel := true, current := none }) rfl rfl).trans (Moves.stageEnd _)

theorem Readout.turnTo_frame (r : Readout) (c : CaptureSection) (e : Option StationEntry) :
    (r.turnTo c e).streaming = r.streaming ∧ (r.turnTo c e).record = r.record := by
  cases e <;> exact ⟨rfl, rfl⟩

theorem Readout.advance_frame (r : Readout) (c : CaptureSection) (st : Station) :
    (r.advance c st).streaming = r.streaming ∧ (r.advance c st).record = r.record := by
  unfold Readout.advance
  dsimp only
  split_ifs
  · exact Readout.turnTo_frame _ _ _
  · exact ⟨rfl, rfl⟩

theorem Moves.stageCapture {s t : State} {st : Station} (next : s.stageCapture st = .next t) : Moves i s0 s t := by
  unfold State.stageCapture at next
  split at next
  · cases next
  · rename_i c e _
    split at next
    · cases next
    · cases next
      have frame := s.readout.advance_frame c st
      exact (Moves.setReadout frame.1 frame.2).trans (Moves.setStaged _ _)

theorem Moves.execStageDataFrame {s t : State} (next : execStageDataFrame s = .next t) : Moves i s0 s t := by
  unfold Machine.execStageDataFrame at next
  split at next
  · split at next
    · split at next
      · cases next
        exact Moves.stageEnd s
      · exact Moves.stageCapture next
    · cases next
      exact Moves.stageEnd s
  · cases next
    exact .refl

theorem Moves.fetchRecord {s : State} (room : s.trunk.reply.length < 4) (c : Command) {p : Fin 32} {r : Record}
    (held : s.record p = some r) (sel : Selection) : Moves i s0 s (s.fetchRecord c p r sel) := by
  unfold State.fetchRecord
  split_ifs with other streaming
  · exact Moves.answer room c _ _
  · exact Moves.setReadout rfl rfl
  · exact Moves.answered (.single (.capture _ _ (.started s p r sel held (not_not.mp other)
      (Bool.not_eq_true _ ▸ streaming)))) room rfl c _ _

theorem State.freeRecord_trunk (s : State) (p : Fin 32) : (s.freeRecord p).trunk = s.trunk := by
  rw [State.freeRecord_frame]

theorem State.cancelReadout_record (s : State) (p : Fin 32) : s.cancelReadout.record p = s.record p := by
  unfold State.cancelReadout
  split_ifs <;> rfl

theorem State.cancelReadout_reply (s : State) : s.cancelReadout.trunk.reply = s.trunk.reply := by
  unfold State.cancelReadout
  split_ifs <;> rfl

theorem State.releaseReading_eq (s : State) (p : Fin 32) : s.releaseReading p =
    (s.cancelReadout.freeRecord p).setReadout { s.cancelReadout.readout with record := none } := by
  rw [State.releaseReading, State.freeRecord_frame]

theorem Moves.releaseRecord {s : State} (room : s.trunk.reply.length < 4) (c : Command) {p : Fin 32} {r : Record}
    (held : s.record p = some r) : Moves i s0 s (s.releaseRecord c p r) := by
  have freed (state : r.state = .ready ∨ r.state = .filling) : Moves i s0 s ((s.freeRecord p).answer c .done []) :=
    Moves.answered (Moves.freeRecord held state) room (by rw [State.freeRecord_trunk]) c _ _
  unfold State.releaseRecord
  split
  · exact Moves.answer room c _ _
  · rename_i ready
    exact freed (.inl ready)
  · rename_i filling
    exact freed (.inr filling)
  · rename_i reading
    rw [State.releaseReading_eq]
    refine Moves.answered ((Moves.cancelReadout s).trans (.single (.capture _ _ (.released _ p r ?_ reading)))) room
      ?_ c _ _
    · rw [State.cancelReadout_record, held]
    · rw [State.setReadout_trunk, State.freeRecord_trunk, State.cancelReadout_reply]

theorem Moves.bulkCopyRead {place station : Nat} {s t : State} (next : execBulkCopyRead place station s = .next t) :
    Moves i s0 s t := by
  unfold execBulkCopyRead at next
  split at next
  · exact Moves.whileReleased next (Moves.bulkReadAt s _ _)
  · cases next

theorem Moves.transition {n : Nat} {tr : Transition} {s t : State} (next : execTransition n tr s = .next t) :
    Moves i s0 s t := by
  unfold execTransition at next
  split at next
  · exact Moves.whileReleased next (Moves.takeWith s _ tr)
  · cases next

theorem Moves.rstnReleased {straps : Nat} {s t : State} (row : i = .rstnReleased straps)
    (next : execRstnReleased straps s = .next t) : Moves i s0 s t := by
  unfold execRstnReleased at next
  split at next <;> cases next
  split_ifs
  · exact .refl
  · exact .single (.powerOn s _ _ (.inr ⟨straps, row⟩))

end Sys2Proof.Machine
end

section
/-! PROOFS. Every command is a run of moves, and what every move keeps every step keeps. -/

namespace Sys2Proof.Machine

/-- A command that goes on is a run of its moves. -/
theorem exec_moves {i : Instr} {s t : State} (next : exec i s = .next t) : Moves i s s t := by
  unfold exec at next
  cases i with
  | lineFrameReceived line bytes =>
    refine Moves.whileReleased next ?_
    split
    · exact (Moves.receive s line _).trans (Moves.lineFrame _ _ _)
    · exact Moves.receive s line _
  | silenceTimerExpiry line =>
    refine Moves.whileReleased next ?_
    split_ifs
    · exact .refl
    · split
      · exact .refl
      · rename_i sync
        exact (Moves.setPort s line (.outside _ .down none 0 _ none (.inl (by simp [sync])))).trans
          (Moves.lineNotice _ _ _ _)
      · exact ((Moves.lineLeave s line).trans (Moves.setPort _ line (.outside _ .down none 0 _ none
          (.inr (by simp [State.lineLeave]))))).trans (Moves.lineNotice _ _ _ _)
  | fieldCommandTxStart line =>
    refine Moves.whileReleased next ?_
    split
    · rename_i f rest _ _
      exact Moves.setPort s line (.aside _ _ _ (some (envelope f.kind f.payload)) _ _ _ (by simp))
    · exact .refl
  | fieldCommandTxDone line =>
    refine Moves.whileReleased next ?_
    split
    · exact Moves.setPort s line (.aside _ _ (s.port line).fieldQueue.tail none _ _ _ (by simp))
    · exact .refl
  | takeInstant =>
    refine Moves.whileReleased next ?_
    split
    · exact Moves.takeWhole s _
    · exact .refl
  | warmupEnd station => exact Moves.transition next
  | debounceComplete station => exact Moves.transition next
  | onMaxDuration station => exact Moves.transition next
  | holdEnd station => exact Moves.transition next
  | detectorLineLeave line =>
    refine Moves.whileReleased next ?_
    split_ifs
    · exact .refl
    · exact Moves.performLeave s line
  | associatorTakePick =>
    refine Moves.whileReleased next ?_
    split
    · exact ((Moves.dropEntry s).trans (Moves.assocSwitchFor (.inl rfl) _ _)).trans (Moves.handlePick (.inl rfl) _ _)
    · exact .refl
  | associatorTakeLineMark =>
    refine Moves.whileReleased next ?_
    split
    · exact ((Moves.dropEntry s).trans (Moves.assocSwitchFor (.inr rfl) _ _)).trans (Moves.handleMark rfl _ _)
    · exact .refl
  | declareMessageTaken =>
    refine Moves.whileReleased next ?_
    split
    · rename_i m head
      exact (Moves.single (.assoc _ _ (.dropped s))).trans (Moves.handleDeclare (List.mem_of_mem_head? head))
    · exact .refl
  | bulkCopyRead place station => exact Moves.bulkCopyRead next
  | closeMessageTaken =>
    refine Moves.whileReleased next ?_
    split
    · rename_i m head
      exact (Moves.single (.assoc _ _ (.dropped s))).trans (Moves.handleClose (List.mem_of_mem_head? head))
    · exact .refl
  | downlinkFrameReceived bytes =>
    refine Moves.whileReleased next ?_
    have received : Moves (.downlinkFrameReceived bytes) s s
        { s with trunk := { s.trunk with rx := (hunt (s.trunk.rx ++ bytes)).2 } } :=
      .single (.trunk s _ ⟨by simp, by simp, by simp, by simp⟩)
    split
    · exact received.trans (Moves.downlinkFrame _ _)
    · exact received
  | arbiterChoice =>
    refine Moves.whileReleased next ?_
    split_ifs
    · exact Moves.arbiterTake s
    · exact .refl
  | uplinkTxDone => exact Moves.whileReleased next (.single (.trunk s _ ⟨by simp, by simp, by simp, by simp⟩))
  | stageDataFrame => exact Moves.execStageDataFrame next
  | identify => exact Moves.takeCommand next fun c u room => Moves.withLength room c 0 (Moves.answer room c _ _)
  | readStatus =>
    exact Moves.takeCommand next fun c u room =>
      Moves.withLength room c 0 (Moves.answered (Moves.clearFlags u) room rfl c _ _)
  | readStationStatus =>
    exact Moves.takeCommand next fun c u room => Moves.onRange room c fun first last =>
      Moves.answered (.single (.bank _ _ (.unreadRead u first last))) room rfl c _ _
  | writeSettings =>
    exact Moves.takeCommand next fun c u room => Moves.withLength room c 6
      (Moves.answered (.single (.settings u _ (readSettings_inRange _).1 (readSettings_inRange _).2)) room rfl c _ _)
  | readSettings => exact Moves.takeCommand next fun c u room => Moves.withLength room c 0 (Moves.answer room c _ _)
  | loadTable =>
    refine Moves.takeCommand next fun c u room => ?_
    split_ifs
    · exact Moves.answer room c _ _
    · split
      · exact Moves.answer room c _ _
      · exact Moves.loadInto room c _
  | readTable => exact Moves.takeCommand next fun c u room => Moves.withLength room c 4 (Moves.reportTable room c)
  | copyBank =>
    refine Moves.takeCommand next fun c u room => Moves.withLength room c 0 ?_
    split_ifs with scheduled
    · exact Moves.answer room c _ _
    · exact Moves.answered (.single (.bank _ _ (.stored u _ (by simpa using scheduled) fun active _ => active)))
        room rfl c _ _
  | switchBank =>
    refine Moves.takeCommand next fun c u room => Moves.withLength room c 5 ?_
    split
    · exact Moves.answer room c _ _
    · split_ifs with scheduled
      · exact Moves.answer room c _ _
      · exact Moves.answered (.single (.bank _ _ (.scheduled u _ (by simpa using scheduled)))) room
          (by rw [State.schedule_trunk]) c _ _
  | cancelSwitch =>
    refine Moves.takeCommand next fun c u room => Moves.withLength room c 0 ?_
    split_ifs with switched
    · exact Moves.answer room c _ _
    · rw [Bool.or_eq_true, Bool.or_eq_true, not_or, not_or, Bool.not_eq_true, Bool.not_eq_true, Bool.not_eq_true]
        at switched
      obtain ⟨⟨-, marks⟩, blocks⟩ := switched
      exact Moves.answered (.single (.bank _ _ (.withdrawn u marks blocks))) room rfl c _ _
  | switchedReport block =>
    refine Moves.whileReleased next ?_
    split
    · rename_i found
      exact Moves.takeReport found
    · exact .refl
  | restartDetectors =>
    exact Moves.takeCommand next fun c u room => Moves.onRange room c fun first last =>
      Moves.answered (.single (.bank _ _ (.restarted u first last))) room rfl c _ _
  | listEvents => exact Moves.takeCommand next fun c u room => Moves.withLength room c 0 (Moves.answer room c _ _)
  | readEvent =>
    refine Moves.takeCommand next fun c u room => Moves.withLength room c 2 ?_
    split
    · exact Moves.answer room c _ _
    · exact Moves.answer room c _ _
  | fetch =>
    refine Moves.takeCommand next fun c u room => Moves.withLength room c 3 ?_
    split
    · exact Moves.answer room c _ _
    · split
      · exact Moves.answer room c _ _
      · split
        · exact Moves.answer room c _ _
        · rename_i held
          exact Moves.fetchRecord room c held _
  | cancelReadout =>
    refine Moves.takeCommand next fun c u room => Moves.withLength room c 0 ?_
    split_ifs
    · exact (Moves.answer room c _ _).trans (Moves.cancelReadout _)
    · exact Moves.answer room c _ _
  | release =>
    refine Moves.takeCommand next fun c u room => Moves.withLength room c 2 ?_
    split
    · exact Moves.answer room c _ _
    · split
      · exact Moves.answer room c _ _
      · rename_i held
        exact Moves.releaseRecord room c held
  | unknownCommand => exact Moves.takeCommand next fun c u room => Moves.answer room c _ _
  | resetEngine =>
    exact Moves.takeCommand next fun c u room => (Moves.answer room c _ _).trans (.single (.engineReset _ rfl))
  | resetFull =>
    exact Moves.takeCommand next fun c u room => (Moves.answer room c _ _).trans (.single (.fullReset _ rfl))
  | rstnAsserted =>
    cases next
    exact .single (.powerOn s _ _ (.inl rfl))
  | rstnReleased straps => exact Moves.rstnReleased rfl next
  | trdyAsserted =>
    cases next
    exact .single (.pins s _)
  | trdyWithdrawn =>
    cases next
    exact .single (.pins s _)
  | reset => exact Moves.takeCommand next fun c u room => Moves.withLength room c 1 (Moves.answer room c _ _)

/-- Every step keeps what every move keeps. `holds` says the invariant of the state from which the command is run,
whose messages and records the moves may quote. -/
theorem step_keeps {P : State → Prop} (ofPending : ∀ u : State, P u → P u.dropPending)
    (keeps : ∀ i s0 u v, P s0 → Move i s0 u v → P u → P v) {s t : State} (holds : P s) (next : step s = .next t) :
    P t := by
  unfold step at next
  split at next
  · cases next
    exact Moves.keep (i := .takeInstant) (s0 := s) (fun u v => keeps _ _ u v holds) (Moves.idle s) holds
  · have start := ofPending s holds
    exact Moves.keep (fun u v => keeps _ _ u v start) (exec_moves next) start

/-- No move touches the queue of the commands that wait. -/
theorem Move.pending {i : Instr} {s0 s t : State} (move : Move i s0 s t) : t.pending = s.pending := by
  cases move with
  | bank t move => rw [move.frame]
  | assoc t move => rw [move.frame]
  | capture t move => rw [move.frame]
  | _ => rfl

theorem Moves.pending {i : Instr} {s0 s t : State} (run : Moves i s0 s t) : t.pending = s.pending :=
  Moves.keep (P := fun u => u.pending = s.pending) (fun _ _ move same => move.pending.trans same) run rfl

end Sys2Proof.Machine
end

section
/-! PROOFS. The invariants of the bounded places, the sample memory and the line ports, each read off the moves. -/

namespace Sys2Proof.Machine

/-! ## Bounded places (R12, R15, R26, R71, R138, R140) -/

/-- The bounds of every place but the event channel's. -/
def State.placesBut (s : State) : Prop :=
  (∀ l, (s.port l).bounded) ∧ (∀ i, (s.station i).unread.length ≤ 2) ∧ s.trunk.control.length ≤ 4 ∧
    s.trunk.pass.length ≤ 8 ∧ s.trunk.reply.length ≤ 4 ∧ s.trunk.notice.length ≤ 16

theorem State.placesBounded_iff (s : State) : s.placesBounded ↔ s.placesBut ∧ s.channel.length ≤ 64 := by
  constructor
  · rintro ⟨a, b, unread, channel, trunk⟩
    exact ⟨⟨fun l => by cases l <;> assumption, unread, trunk⟩, channel⟩
  · rintro ⟨⟨ports, unread, trunk⟩, channel⟩
    exact ⟨ports .a, ports .b, unread, channel, trunk⟩

theorem afterTake_length (buffer : List InputEntry) : (afterTake buffer).length ≤ buffer.length := by
  unfold afterTake
  split
  · exact le_rfl
  · split_ifs
    · exact le_rfl
    · exact Nat.le_succ _

theorem PortMove.bounded {p q : LinePort} (move : PortMove p q) (ok : p.bounded) : q.bounded := by
  obtain ⟨buffer, fieldQueue⟩ := ok
  cases move with
  | aside _ _ _ _ _ _ room => exact ⟨buffer, room.trans (max_le fieldQueue le_rfl)⟩
  | emptied => exact ⟨Nat.zero_le _, fieldQueue⟩
  | outside => exact ⟨buffer, fieldQueue⟩
  | handed _ _ _ _ _ _ _ room =>
    refine ⟨?_, fieldQueue⟩
    simp only [List.length_append, List.length_singleton]
    omega
  | overrun => exact ⟨buffer, fieldQueue⟩
  | taken => exact ⟨(afterTake_length _).trans buffer, fieldQueue⟩

theorem enterUnread_length (q : List StatusCode) (c : StatusCode) : (enterUnread q c).length ≤ 2 := by
  cases q <;> simp [enterUnread]

theorem confirmCode_unread (c : StatusCode) (x : StationState) (short : x.unread.length ≤ 2) :
    (confirmCode c x).unread.length ≤ 2 := by
  unfold confirmCode
  split_ifs
  · exact short
  · exact enterUnread_length _ _
  · exact short

theorem receiveSlot_unread (slot : Option SlotData) (x : StationState) (short : x.unread.length ≤ 2) :
    (receiveSlot slot x).unread.length ≤ 2 := by
  cases slot with
  | none => exact short
  | some d => exact confirmCode_unread _ x short

theorem StationState.unread_of_received {x y : StationState} (h : x.received = y.received) : x.unread = y.unread :=
  congrArg (fun v => v.2.2.1) h

theorem StationState.lineLeft_unread (x : StationState) : x.lineLeft.unread = x.unread := by
  unfold StationState.lineLeft
  dsimp only
  split <;> rfl

theorem StationState.restarted_unread (x : StationState) : x.restarted.unread = x.unread := by
  unfold StationState.restarted
  split <;> rfl

/-! ## One station's state -/

/-- What one event can make of what the detector bank holds for a station. -/
inductive StationMove : StationState → StationState → Prop
  | flow (n : Instant) (old : Option Bank) (bank : Bank) (j : Station) (x : StationState) :
      StationMove x (stationFlow n old bank j x).after
  | unreadRead (x : StationState) : StationMove x { x with unread := x.unread.tail }
  | restarted (x : StationState) : StationMove x x.restarted
  | left (x : StationState) : StationMove x x.lineLeft
  | compared (old new : Bank) (j : Station) (x : StationState) : StationMove x (continuity old new j false x)

/-- A run of such events. -/
def StationMoves : StationState → StationState → Prop := Relation.ReflTransGen StationMove

theorem StationMoves.keep {x y : StationState} {P : StationState → Prop}
    (keeps : ∀ u v, StationMove u v → P u → P v) (run : StationMoves x y) (start : P x) : P y := by
  induction run with
  | refl => exact start
  | tail _ last ih => exact keeps _ _ last ih

theorem StationMoves.refl {x : StationState} : StationMoves x x := Relation.ReflTransGen.refl

theorem StationMoves.of_eq {x y : StationState} (h : y = x) : StationMoves x y := h ▸ .refl

theorem StationMoves.single {x y : StationState} (move : StationMove x y) : StationMoves x y :=
  Relation.ReflTransGen.single move

theorem StationMoves.trans {x y z : StationState} (h : StationMoves x y) (h' : StationMoves y z) : StationMoves x z :=
  Relation.ReflTransGen.trans h h'

@[simp] theorem State.takeShadow_station (s : State) (l : Line) (j : Station) :
    (s.takeShadow l).station j = s.station j := rfl

theorem State.switchIdleLine_station (s : State) (l : Line) (j : Station) : (s.switchIdleLine l).station j =
    if lineOf j = l then
      continuity (s.bankOf (s.bankLine l).inUse) (s.bankOf .shadow) j false (s.station j)
    else s.station j := by
  simp only [State.switchIdleLine, State.takeShadow_station, State.mapStations_station]

theorem State.scheduleLine_station (s : State) (l : Line) (p : SwitchPoint) (j : Station) :
    StationMoves (s.station j) ((s.scheduleLine l p).station j) := by
  unfold State.scheduleLine
  dsimp only
  split_ifs
  · exact .refl
  · rw [State.switchIdleLine_station]
    split_ifs
    · exact .single (.compared _ _ _ _)
    · exact .refl

theorem State.bankInstant_station (s : State) (n : Instant) (j : Station) :
    (s.bankInstant n).station j = if lineOf j = n.line then (s.flowOf n j).after else s.station j := by
  unfold State.bankInstant
  dsimp only
  rw [State.setBankLine_station, State.mapStations_station]
  split_ifs <;> rfl

theorem State.bankLeft_station (s : State) (l : Line) (j : Station) :
    StationMoves (s.station j) ((s.bankLeft l).station j) := by
  have left : StationMoves (s.station j)
      ((s.mapStations fun i x => if lineOf i = l then x.lineLeft else x).station j) := by
    rw [State.mapStations_station]
    split_ifs
    · exact .single (.left _)
    · exact .refl
  unfold State.bankLeft
  dsimp only
  split_ifs
  · rw [State.switchIdleLine_station]
    split_ifs
    · exact left.trans (.single (.compared _ _ _ _))
    · exact left
  · exact left

/-- Each move of the detector bank is a run of events at each station. -/
theorem BankMove.station {s t : State} (move : BankMove s t) (j : Station) :
    StationMoves (s.station j) (t.station j) := by
  cases move with
  | unreadRead first last =>
    rw [State.removeUnread, State.mapStations_station]
    split_ifs
    · exact .single (.unreadRead _)
    · exact .refl
  | restarted first last =>
    rw [State.restartRange, State.mapStations_station]
    split_ifs
    · exact .single (.restarted _)
    · exact .refl
  | instant n =>
    rw [State.bankInstant_station]
    split_ifs
    · exact .single (.flow _ _ _ _ _)
    · exact .refl
  | left l => exact s.bankLeft_station l j
  | scheduled p =>
    exact StationMoves.trans ((s.withScheduled p).scheduleLine_station .a p j)
      (((s.withScheduled p).scheduleLine .a p).scheduleLine_station .b p j)
  | _ => exact .refl

theorem continuity_unread (old new : Bank) (j : Station) (ok : Bool) (x : StationState) :
    (continuity old new j ok x).unread = x.unread :=
  StationState.unread_of_received (continuity_received old new j ok x)

/-- R26: an unread queue never holds more than two codes. -/
theorem StationMove.unread {x y : StationState} (move : StationMove x y) (short : x.unread.length ≤ 2) :
    y.unread.length ≤ 2 := by
  cases move with
  | flow n old bank j =>
    rw [StationState.unread_of_received (stationFlow_received n old bank j x)]
    exact receiveSlot_unread _ x short
  | unreadRead => simpa using short.trans (Nat.le_succ 2)
  | restarted => rwa [StationState.restarted_unread]
  | left => rwa [StationState.lineLeft_unread]
  | compared old new j => rwa [continuity_unread]

/-! ## The state right after a reset -/

theorem LinePort.reset_bounded : LinePort.reset.bounded := ⟨Nat.zero_le _, Nat.zero_le _⟩

theorem State.powerOn_port (s : State) (x : Pins) (unit : Nat) (l : Line) :
    (s.powerOn x unit).port l = LinePort.reset := by cases l <;> rfl

theorem State.fullReset_port (s : State) (l : Line) : s.fullReset.port l = LinePort.reset := by cases l <;> rfl

theorem State.reset_station (j : Station) : State.reset.station j = StationState.reset := by
  simp [State.station, State.reset, DetectorBank.reset]

theorem State.powerOn_station (s : State) (x : Pins) (unit : Nat) (j : Station) :
    (s.powerOn x unit).station j = StationState.reset := State.reset_station j

theorem State.fullReset_station (s : State) (j : Station) : s.fullReset.station j = StationState.reset :=
  State.reset_station j

theorem State.engineReset_station (s : State) (j : Station) : s.engineReset.station j =
    (s.station j).engineReset (s.ctrl.active.station j).enable (s.bankLine (lineOf j)).live
      (s.bankLine (lineOf j)).lastTest := tabulate_get _ _ _

/-! ## The steps -/

theorem State.setPort_port (s : State) (l m : Line) (p : LinePort) :
    (s.setPort l p).port m = if m = l then p else s.port m := by
  split_ifs with same
  · rw [same, State.setPort_port_same]
  · exact State.setPort_port_other s p same

/-- What every event can make of a line's port. -/
theorem Move.port_cases {i : Instr} {s0 s t : State} (move : Move i s0 s t) (l : Line) :
    t.port l = s.port l ∨ PortMove (s.port l) (t.port l) ∨ t.port l = LinePort.reset := by
  cases move with
  | port m p move =>
    rw [State.setPort_port]
    split_ifs with same
    · exact .inr (.inl (same ▸ move))
    · exact .inl rfl
  | bank _ move => rw [move.frame]; exact .inl rfl
  | assoc _ move => rw [move.frame]; exact .inl rfl
  | capture _ move => rw [move.frame]; exact .inl rfl
  | fullReset => exact .inr (.inr (State.fullReset_port s l))
  | powerOn x unit => exact .inr (.inr (State.powerOn_port s x unit l))
  | _ => exact .inl rfl

/-- What every event can make of a station's state. -/
theorem Move.station_cases {i : Instr} {s0 s t : State} (move : Move i s0 s t) (j : Station) :
    StationMoves (s.station j) (t.station j) ∨ t.station j = StationState.reset ∨
      ∃ enabled live test, t.station j = (s.station j).engineReset enabled live test := by
  cases move with
  | bank _ move => exact .inl (move.station j)
  | assoc _ move => rw [move.frame]; exact .inl .refl
  | capture _ move => rw [move.frame]; exact .inl .refl
  | engineReset => exact .inr (.inr ⟨_, _, _, s.engineReset_station j⟩)
  | fullReset => exact .inr (.inl (s.fullReset_station j))
  | powerOn x unit => exact .inr (.inl (s.powerOn_station x unit j))
  | _ => exact .inl .refl

/-- The bounded queues of the trunk port. -/
def Trunk.bounded (t : Trunk) : Prop :=
  t.control.length ≤ 4 ∧ t.pass.length ≤ 8 ∧ t.reply.length ≤ 4 ∧ t.notice.length ≤ 16

theorem TrunkMove.bounded {t u : Trunk} (move : TrunkMove t u) (ok : t.bounded) : u.bounded := by
  obtain ⟨control, pass, reply, notice⟩ := ok
  exact ⟨move.control.trans (max_le control le_rfl), move.pass.trans (max_le pass le_rfl),
    move.reply.trans (max_le reply le_rfl), move.notice.trans (max_le notice le_rfl)⟩

theorem Move.trunk_bounded {i : Instr} {s0 s t : State} (move : Move i s0 s t) (ok : s.trunk.bounded) :
    t.trunk.bounded := by
  cases move with
  | notices ns fl lf grow =>
    obtain ⟨control, pass, reply, notice⟩ := ok
    exact ⟨control, pass, reply, grow.2.trans (max_le notice le_rfl)⟩
  | trunk u move => exact move.bounded ok
  | bank _ move => rw [move.frame]; exact ok
  | assoc _ move => rw [move.frame]; exact ok
  | capture _ move => rw [move.frame]; exact ok
  | engineReset =>
    obtain ⟨control, pass, reply, -⟩ := ok
    exact ⟨control, pass, reply, Nat.zero_le _⟩
  | fullReset => exact ⟨Nat.zero_le _, Nat.zero_le _, ok.2.2.1, Nat.zero_le _⟩
  | powerOn => exact ⟨Nat.zero_le _, Nat.zero_le _, Nat.zero_le _, Nat.zero_le _⟩
  | _ => exact ok

theorem Move.placesBut {i : Instr} {s0 s t : State} (move : Move i s0 s t) (ok : s.placesBut) : t.placesBut := by
  obtain ⟨ports, unread, trunk⟩ := ok
  refine ⟨fun l => ?_, fun j => ?_, move.trunk_bounded trunk⟩
  · rcases move.port_cases l with same | changed | reset
    · exact same ▸ ports l
    · exact changed.bounded (ports l)
    · exact reset ▸ LinePort.reset_bounded
  · rcases move.station_cases j with run | reset | ⟨enabled, live, test, reset⟩
    · exact run.keep (fun _ _ => StationMove.unread) (unread j)
    · exact reset ▸ Nat.zero_le 2
    · rw [reset]
      exact unread j

/-! ## The event channel (R71) -/

/-- Counts of a list under two tests that differ at one member only. -/
theorem countP_of_differ {α : Type} [DecidableEq α] {f g : α → Bool} {k : α} (on : f k = true) (off : g k = false)
    (same : ∀ j, j ≠ k → f j = g j) : ∀ as : List α, as.countP f = as.countP g + as.count k
  | [] => rfl
  | a :: as => by
    rw [List.countP_cons, List.countP_cons, List.count_cons, countP_of_differ on off same as]
    by_cases here : a = k
    · subst here
      simp [on, off]
      omega
    · rw [same a here]
      simp [here]
      omega

/-- A slot emptied counts one candidate less. -/
theorem occupied_set_none {slots : Vector (Option Candidate) 16} {k : Fin 16} {c : Candidate}
    (held : slots[k] = some c) : occupied (slots.set k none) + 1 = occupied slots := by
  have count : allSlots.count k = 1 := List.count_eq_one_of_mem allSlots_nodup (mem_allSlots k)
  rw [occupied, occupied, countP_of_differ (k := k) (f := fun j : Fin 16 => (slots[j]).isSome)
    (g := fun j : Fin 16 => ((slots.set k none)[j]).isSome), count]
  · rw [held]
    rfl
  · rw [Vector.get_set_fin, if_pos rfl]
    rfl
  · intro j other
    rw [Vector.get_set_fin, if_neg (fun h => other (Fin.ext h))]

theorem occupied_le (slots : Vector (Option Candidate) 16) : occupied slots ≤ 16 :=
  List.countP_le_length.trans (by simp [allSlots])

/-- The messages in the channel and those that the candidates can still send when they are closed. -/
def State.channelClaim (s : State) : Nat := s.channel.length + occupied s.assoc.slots

theorem State.closeCandidate_claim {s : State} {k : Fin 16} {c : Candidate} (held : s.candidate k = some c)
    (switchClosed : Bool) : (s.closeCandidate switchClosed k c).channelClaim ≤ s.channelClaim := by
  have emptied := occupied_set_none held
  unfold State.closeCandidate
  split
  · simp only [State.channelClaim, State.setCandidate]
    omega
  · simp only [State.channelClaim, State.setCandidate, State.send, List.length_append, List.length_singleton]
    omega

/-- R94: each CLOSE message frees the slot of its candidate, so closings never add to the claim. -/
theorem State.closeWhere_claim (switchClosed : Bool) (test : Candidate → Bool) : ∀ (fuel : Nat) (s : State),
    (s.closeWhere switchClosed test fuel).channelClaim ≤ s.channelClaim
  | 0, _ => le_rfl
  | fuel + 1, s => by
    unfold State.closeWhere
    split
    · exact le_rfl
    · rename_i found
      exact (State.closeWhere_claim switchClosed test fuel _).trans
        (State.closeCandidate_claim (lowestOrder_some found).1 switchClosed)

theorem State.assocSwitchFor_claim (s : State) (e : QueueEntry) : (s.assocSwitchFor e).channelClaim ≤ s.channelClaim := by
  unfold State.assocSwitchFor
  split_ifs
  · exact State.closeWhere_claim true _ 16 s
  · exact le_rfl

theorem State.viewStep_claim (s : State) (l : Line) (v : LineView) : (s.viewStep l v).channelClaim ≤ s.channelClaim := by
  unfold State.viewStep
  dsimp only
  split_ifs
  · exact le_rfl
  · split
    · exact le_rfl
    · exact State.closeWhere_claim false _ 16 { s with assoc := _ }

theorem State.handleMark_claim (s : State) (m : LineMark) : (s.handleMark m).channelClaim ≤ s.channelClaim := by
  unfold State.handleMark
  split_ifs
  · exact (State.viewStep_claim _ _ _).trans (s.viewStep_claim _ _)
  · exact s.viewStep_claim _ _
  · exact s.viewStep_claim _ _

/-- R90: a pick taken sends at most its DECLARE message. -/
theorem State.handlePick_channel (s : State) (p : Pick) : (s.handlePick p).channel.length ≤ s.channel.length + 1 := by
  unfold State.handlePick
  split_ifs
  · split
    · unfold State.joinCandidate
      dsimp only
      split
      · exact Nat.le_succ _
      · split_ifs
        · simp [State.setCandidate]
        · exact Nat.le_succ _
    · unfold State.openCandidate
      split
      · simp
      · exact Nat.le_succ _
  · exact Nat.le_succ _

theorem State.channel_of_takeable {s : State} {e : QueueEntry} (found : s.takeable = some e) :
    s.channel.length + 17 ≤ 64 := by
  unfold State.takeable at found
  split_ifs at found with room
  exact room

/-- R71: 17 free places are enough for the CLOSE messages of a switch and one DECLARE message. -/
theorem execAssociatorTakePick_channel {s t : State} (short : s.channel.length ≤ 64)
    (next : execAssociatorTakePick s = .next t) : t.channel.length ≤ 64 := by
  unfold execAssociatorTakePick State.whileReleased at next
  cases next
  split_ifs
  · split
    · rename_i p found
      have room := State.channel_of_takeable found
      have claim := s.dropEntry.assocSwitchFor_claim (.pick p)
      have pick := (s.dropEntry.assocSwitchFor (.pick p)).handlePick_channel p
      have slots := occupied_le s.assoc.slots
      simp only [State.channelClaim, State.dropEntry_channel, State.dropEntry_assoc] at claim
      omega
    · exact short
  · exact short

theorem execAssociatorTakeLineMark_channel {s t : State} (short : s.channel.length ≤ 64)
    (next : execAssociatorTakeLineMark s = .next t) : t.channel.length ≤ 64 := by
  unfold execAssociatorTakeLineMark State.whileReleased at next
  cases next
  split_ifs
  · split
    · rename_i m found
      have room := State.channel_of_takeable found
      have claim := ((s.dropEntry.assocSwitchFor (.mark m)).handleMark_claim m).trans
        (s.dropEntry.assocSwitchFor_claim (.mark m))
      have slots := occupied_le s.assoc.slots
      simp only [State.channelClaim, State.dropEntry_channel, State.dropEntry_assoc] at claim
      omega
    · exact short
  · exact short

/-- No command but the associator's two lengthens the event channel. -/
theorem Move.channel {i : Instr} {s0 s t : State} (other : ¬ takesEntry i) (move : Move i s0 s t) :
    t.channel.length ≤ s.channel.length := by
  cases move with
  | bank _ move => rw [move.frame]
  | assoc _ move =>
    cases move with
    | sent _ _ _ taking => exact absurd taking other
    | dropped => simp [State.dropMessage]
    | _ => exact le_rfl
  | capture _ move => rw [move.frame]
  | engineReset => exact Nat.zero_le _
  | fullReset => exact Nat.zero_le _
  | powerOn => exact Nat.zero_le _
  | _ => exact le_rfl

theorem exec_channel {i : Instr} {s t : State} (short : s.channel.length ≤ 64) (next : exec i s = .next t) :
    t.channel.length ≤ 64 := by
  by_cases taking : takesEntry i
  · rcases taking with rfl | rfl
    · exact execAssociatorTakePick_channel short next
    · exact execAssociatorTakeLineMark_channel short next
  · exact Moves.keep (P := fun u => u.channel.length ≤ 64) (fun _ _ move ok => (move.channel taking).trans ok)
      (exec_moves next) short

theorem step_channel {s t : State} (short : s.channel.length ≤ 64) (next : step s = .next t) :
    t.channel.length ≤ 64 := by
  unfold step at next
  split at next
  · cases next
    rwa [State.idle_channel]
  · exact exec_channel (s := s.dropPending) short next

/-- Settles O7: every move keeps every bound but the event channel's, which the associator's two commands keep by the
claim of the candidates still to be closed. -/
theorem placesStayBounded : Obligations.PlacesStayBounded := by
  intro s t ok next
  obtain ⟨but, channel⟩ := s.placesBounded_iff.mp ok
  exact t.placesBounded_iff.mpr
    ⟨step_keeps (P := State.placesBut) (fun _ ok => ok) (fun _ _ _ _ _ move ok => move.placesBut ok) but next,
      step_channel channel next⟩

/-! ## The sample memory (R29, R110) -/

theorem Move.mem_wf {i : Instr} {s0 s t : State} (move : Move i s0 s t) (ok : Memory.wf s.mem = true) :
    Memory.wf t.mem = true := by
  cases move with
  | mem m wf => exact wf ok
  | bank _ move => rw [move.frame]; exact ok
  | assoc _ move => rw [move.frame]; exact ok
  | capture _ move => rw [move.frame]; exact ok
  | fullReset => exact State.reset_memory_wf
  | powerOn => exact State.reset_memory_wf
  | _ => exact ok

/-- Settles O8: every move that touches the sample memory is one of its own writes. -/
theorem sampleMemoryStaysCanonical : Obligations.SampleMemoryStaysCanonical :=
  fun _ _ ok next => step_keeps (P := fun u => Memory.wf u.mem = true) (fun _ ok => ok)
    (fun _ _ _ _ _ move ok => move.mem_wf ok) ok next

/-! ## The sequence of a line's frames (R6, R9, R12) -/

/-- What follows the last entry of a list by its fill count may be placed behind it. -/
theorem entriesFollow_append : ∀ (buffer : List InputEntry) (e' : InputEntry), entriesFollow buffer →
    (∀ e, buffer.getLast? = some e → e'.index = indexPlus (e.index + 1) e'.fill) → entriesFollow (buffer ++ [e'])
  | [], _, _, _ => trivial
  | [e], e', _, last => ⟨last e rfl, trivial⟩
  | e :: d :: rest, e', follow, last => by
    obtain ⟨bridge, follow⟩ := follow
    exact ⟨bridge, entriesFollow_append (d :: rest) e' follow fun x h => last x (by rwa [List.getLast?_cons_cons])⟩

theorem entriesFollow_tail {e : InputEntry} {rest : List InputEntry} (follow : entriesFollow (e :: rest)) :
    entriesFollow rest := by
  cases rest with
  | nil => trivial
  | cons d rest => exact follow.2

/-- R12: an entry whose filled instants are being taken keeps its index and its fill count. -/
theorem entriesFollow_take {e : InputEntry} {rest : List InputEntry} (follow : entriesFollow (e :: rest)) (n : Nat) :
    entriesFollow ({ e with taken := n } :: rest) := by
  cases rest with
  | nil => trivial
  | cons d rest => exact follow

/-- R9: a frame at distance d from the expected index comes d indices and the pending overrun fill after the newest
entry. -/
theorem bridge_index {last expected index : Index} {overrun fill : Nat}
    (known : expected = indexPlus (last + 1) overrun) (bridge : fill = (index - expected).toNat + overrun) :
    index = indexPlus (last + 1) fill := by
  subst known bridge
  simp only [indexPlus]
  bv_omega

/-- The newest entry after an instant has been taken was the newest before, but for its count of taken instants. -/
theorem last_afterTake {buffer : List InputEntry} {x : InputEntry} (last : (afterTake buffer).getLast? = some x) :
    ∃ y, buffer.getLast? = some y ∧ y.index = x.index := by
  cases buffer with
  | nil => cases last
  | cons e rest =>
    rw [afterTake] at last
    cases rest with
    | nil =>
      split_ifs at last
      · cases last
        exact ⟨e, rfl, rfl⟩
      · cases last
    | cons d rest =>
      rw [List.getLast?_cons_cons]
      split_ifs at last
      · rw [List.getLast?_cons_cons] at last
        exact ⟨x, last, rfl⟩
      · exact ⟨x, last, rfl⟩

theorem PortMove.sequenceOk {p q : LinePort} (move : PortMove p q) (ok : p.sequenceOk) : q.sequenceOk := by
  obtain ⟨outside, follow, expected⟩ := ok
  have ofEmpty {r : LinePort} (empty : r.buffer = []) : r.sequenceOk :=
    ⟨fun _ => empty, empty ▸ trivial, fun e x last => by rw [empty] at last; cases last⟩
  cases move with
  | aside => exact ⟨outside, follow, expected⟩
  | emptied => exact ofEmpty rfl
  | outside _ _ _ _ _ empty => exact ofEmpty (empty.elim outside id)
  | handed l index fill run test map bridge room =>
    refine ⟨fun other => absurd rfl other, entriesFollow_append _ _ follow fun e last => ?_, fun e x last same => ?_⟩
    · rcases bridge with notLive | ⟨x, known, bridge⟩
      · rw [outside notLive] at last
        cases last
      · exact bridge_index (expected e x last known) bridge
    · rw [List.getLast?_concat, Option.some.injEq] at last
      rw [Option.some.injEq] at same
      subst last same
      simp [indexPlus]
  | overrun index fill run test bridge full =>
    refine ⟨fun other => absurd rfl other, follow, fun e x last same => ?_⟩
    rcases bridge with notLive | ⟨y, known, bridge⟩
    · exact absurd (outside notLive ▸ by decide) full
    · rw [Option.some.injEq] at same
      subst same
      have index := bridge_index (expected e y last known) bridge
      simp only [indexPlus] at index ⊢
      bv_omega
  | taken =>
    cases buffer : p.buffer with
    | nil => exact ofEmpty rfl
    | cons e rest =>
      rw [buffer] at follow outside
      have live : ¬ p.state ≠ .live := fun notLive => by cases outside notLive
      refine ⟨fun notLive => absurd notLive live, ?_, fun x y last known => ?_⟩
      · dsimp only [afterTake]
        split_ifs
        · exact entriesFollow_take follow _
        · exact entriesFollow_tail follow
      · obtain ⟨z, newest, same⟩ := last_afterTake (buffer ▸ last)
        rw [← same]
        exact expected z y (buffer ▸ newest) known

theorem LinePort.reset_sequenceOk : LinePort.reset.sequenceOk :=
  ⟨fun _ => rfl, trivial, fun _ _ last => by cases last⟩

/-- Settles O16: each event at a port keeps the sequence of its entries. -/
theorem fillCountsBridgeTheGaps : Obligations.FillCountsBridgeTheGaps :=
  fun _ _ ok next => step_keeps (P := fun u => ∀ l, (u.port l).sequenceOk) (fun _ ok => ok)
    (fun _ _ _ _ _ move ok l => by
      rcases move.port_cases l with same | changed | reset
      · exact same ▸ ok l
      · exact changed.sequenceOk (ok l)
      · exact reset ▸ LinePort.reset_sequenceOk) ok next

end Sys2Proof.Machine
end

section
/-! PROOFS. The ranges of the detector arithmetic (R39, R41) and of the tables and settings (R19, R33, R75, R78, R151). -/

namespace Sys2Proof.Machine

/-! ## The high-pass and the averages at one instant (R38 to R41) -/

/-- The high-pass states and the averages of a station, the part of its state that has a range. -/
def StationState.arithmetic (x : StationState) : HighPass × HighPass × HighPass × Nat × Nat :=
  (x.hp1, x.hp2, x.hp3, x.sta, x.lta)

theorem StationState.inRange_of_arithmetic {x y : StationState} (same : y.arithmetic = x.arithmetic)
    (ok : x.inRange) : y.inRange := by
  simp only [StationState.arithmetic, Prod.mk.injEq] at same
  obtain ⟨hp1, hp2, hp3, sta, lta⟩ := same
  unfold StationState.inRange
  rw [hp1, hp2, hp3, sta, lta]
  exact ok

theorem saturate_mem (h : Int) : -8388607 ≤ saturate h ∧ saturate h ≤ 8388607 := by
  simp only [saturate, Config.maxHighPass]
  omega

theorem sample_toInt_mem (x : Sample) : -8388608 ≤ x.toInt ∧ x.toInt ≤ 8388607 := by
  have low := BitVec.le_toInt x
  have high := BitVec.toInt_lt (x := x)
  norm_num at low high
  omega

theorem componentStep_inRange (used seed : Bool) (k g : Nat) (x : Sample) {hp : HighPass} (ok : hp.inRange) :
    (componentStep used seed k g x hp).1.inRange := by
  unfold componentStep
  cases used with
  | true => exact ⟨(sample_toInt_mem x).1, (sample_toInt_mem x).2, saturate_mem _⟩
  | false => exact ok

theorem componentStep_energy (used seed : Bool) (k g : Nat) (x : Sample) (hp : HighPass) :
    (componentStep used seed k g x hp).2 ≤ 1073741823 := by
  unfold componentStep
  cases used with
  | true => exact Nat.min_le_right _ _
  | false => exact Nat.zero_le _

/-- R41: floor((E − A) / 2^a) takes an average toward E and never past it. -/
theorem averageStep_between (acc e shift : Nat) :
    min acc e ≤ averageStep acc e shift ∧ averageStep acc e shift ≤ max acc e := by
  have positive : (0 : Int) < 2 ^ shift := by positivity
  have exact : ((e : Int) - acc) / 2 ^ shift * 2 ^ shift ≤ (e : Int) - acc := Int.ediv_mul_le _ positive.ne'
  have one : (1 : Int) ≤ 2 ^ shift := positive
  unfold averageStep
  rcases le_total acc e with below | above
  · have nonneg : 0 ≤ ((e : Int) - acc) / 2 ^ shift := Int.ediv_nonneg (by omega) positive.le
    have small : ((e : Int) - acc) / 2 ^ shift ≤ (e : Int) - acc := Int.ediv_le_self _ (by omega)
    omega
  · have nonpos : ((e : Int) - acc) / 2 ^ shift ≤ 0 :=
      Int.ediv_nonpos_of_nonpos_of_neg (by omega) positive |>.trans le_rfl
    have large : (e : Int) - acc ≤ ((e : Int) - acc) / 2 ^ shift := by
      rw [Int.le_ediv_iff_mul_le positive]
      nlinarith
    omega

theorem averageStep_le {acc e bound : Nat} (shift : Nat) (hacc : acc ≤ bound) (he : e ≤ bound) :
    averageStep acc e shift ≤ bound := (averageStep_between acc e shift).2.trans (max_le hacc he)

/-- R40: 256 times the sum of three component energies. -/
theorem energy_le {e1 e2 e3 : Nat} (h1 : e1 ≤ 1073741823) (h2 : e2 ≤ 1073741823) (h3 : e3 ≤ 1073741823) :
    256 * (e1 + e2 + e3) ≤ 824633720064 := by omega

theorem runArithmetic_energy (inp : DetectorInput) (x : StationState) : (runArithmetic inp x).2 ≤ 824633720064 :=
  energy_le (componentStep_energy _ _ _ _ _ _) (componentStep_energy _ _ _ _ _ _) (componentStep_energy _ _ _ _ _ _)

theorem runArithmetic_inRange (inp : DetectorInput) {x : StationState} (ok : x.inRange) :
    (runArithmetic inp x).1.inRange := by
  have energy := runArithmetic_energy inp x
  obtain ⟨hp1, hp2, hp3, sta, lta⟩ := ok
  exact ⟨componentStep_inRange _ _ _ _ _ hp1, componentStep_inRange _ _ _ _ _ hp2, componentStep_inRange _ _ _ _ _ hp3,
    averageStep_le _ sta energy, lta⟩

/-! ## The transition and the LTA (R42, R49 to R53) -/

theorem leaveOn_arithmetic (h : Nat) (x : StationState) : (leaveOn h x).arithmetic = x.arithmetic := by
  unfold leaveOn
  split_ifs <;> rfl

theorem onsetStep_arithmetic (inp : DetectorInput) (r : Nat) (x : StationState) :
    (onsetStep inp r x).after.arithmetic = x.arithmetic := by
  unfold onsetStep
  dsimp only
  split_ifs <;> rfl

theorem pendingStep_arithmetic (inp : DetectorInput) (met : Bool) (r : Nat) (x : StationState) :
    (pendingStep inp met r x).after.arithmetic = x.arithmetic := by
  unfold pendingStep
  dsimp only
  split_ifs <;> rfl

theorem onStep_arithmetic (inp : DetectorInput) (off : Bool) (x : StationState) :
    (onStep inp off x).after.arithmetic = x.arithmetic := by
  unfold onStep
  dsimp only
  split_ifs
  · exact leaveOn_arithmetic _ _
  · exact leaveOn_arithmetic _ _
  · rfl

theorem holdStep_arithmetic (x : StationState) : (holdStep x).after.arithmetic = x.arithmetic := by
  unfold holdStep
  split_ifs <;> rfl

/-- Step 6 of R37 leaves the arithmetic alone. -/
theorem transitionStep_arithmetic (inp : DetectorInput) (x : StationState) :
    (transitionStep inp x).after.arithmetic = x.arithmetic := by
  unfold transitionStep
  dsimp only
  split
  · rfl
  · rfl
  · split_ifs <;> rfl
  · split_ifs
    · exact onsetStep_arithmetic _ _ _
    · rfl
  · exact pendingStep_arithmetic _ _ _ _
  · exact onStep_arithmetic _ _ _
  · exact holdStep_arithmetic _

theorem ltaStep_inRange (t : Transition) {e : Nat} (b : Nat) {x : StationState} (energy : e ≤ 824633720064)
    (ok : x.inRange) : (ltaStep t e b x).inRange := by
  obtain ⟨hp1, hp2, hp3, sta, lta⟩ := ok
  have toward : averageStep x.lta e b ≤ 824633720064 := averageStep_le b lta energy
  have set (n : Nat) (le : n ≤ 824633720064) : ({ x with lta := n } : StationState).inRange :=
    ⟨hp1, hp2, hp3, sta, le⟩
  cases t with
  | maxDuration => exact set _ sta
  | warming => exact set _ toward
  | warmupEnd => exact set _ toward
  | stayArmed => exact set _ toward
  | debounceFailed => exact set _ toward
  | offTestMet => exact set _ toward
  | holding => exact set _ toward
  | holdEnd => exact set _ toward
  | _ => exact set x.lta lta

theorem detectorWork_inRange (inp : DetectorInput) {x : StationState} (ok : x.inRange) :
    (detectorWork inp x).after.inRange := by
  unfold detectorWork
  split
  · exact ok
  · exact ltaStep_inRange _ _ (runArithmetic_energy inp x) (StationState.inRange_of_arithmetic
      (transitionStep_arithmetic inp _) (runArithmetic_inRange inp ok))

/-! ## The other events of a station -/

theorem receiveSlot_arithmetic (slot : Option SlotData) (x : StationState) :
    (receiveSlot slot x).arithmetic = x.arithmetic := by
  cases slot with
  | none => rfl
  | some d =>
    simp only [receiveSlot, confirmCode]
    split_ifs <;> rfl

theorem judgeActivity_arithmetic (ok : Bool) (x : StationState) : (judgeActivity ok x).arithmetic = x.arithmetic := by
  unfold judgeActivity
  split
  · rfl
  · split_ifs <;> rfl
  · split_ifs <;> rfl

theorem continuity_arithmetic (old new : Bank) (j : Station) (ok : Bool) (x : StationState) :
    (continuity old new j ok x).arithmetic = x.arithmetic := by
  unfold continuity
  split_ifs <;> rfl

theorem stationFlow_inRange (n : Instant) (old : Option Bank) (bank : Bank) (j : Station) {x : StationState}
    (ok : x.inRange) : (stationFlow n old bank j x).after.inRange := by
  have received := StationState.inRange_of_arithmetic (receiveSlot_arithmetic (n.slot j) x) ok
  unfold stationFlow
  dsimp only
  refine detectorWork_inRange _ (StationState.inRange_of_arithmetic (judgeActivity_arithmetic _ _) ?_)
  cases old with
  | none => exact received
  | some b => exact StationState.inRange_of_arithmetic (continuity_arithmetic b bank j _ _) received

theorem StationMove.inRange {x y : StationState} (move : StationMove x y) (ok : x.inRange) : y.inRange := by
  cases move with
  | flow n old bank j => exact stationFlow_inRange n old bank j ok
  | unreadRead => exact ok
  | restarted =>
    refine StationState.inRange_of_arithmetic ?_ ok
    unfold StationState.restarted
    split <;> rfl
  | left =>
    refine StationState.inRange_of_arithmetic ?_ ok
    unfold StationState.lineLeft
    dsimp only
    split <;> rfl
  | compared old new j => exact StationState.inRange_of_arithmetic (continuity_arithmetic old new j _ x) ok

theorem StationState.reset_inRange : StationState.reset.inRange := by
  simp [StationState.inRange, StationState.reset, HighPass.inRange]

theorem Move.station_inRange {i : Instr} {s0 s t : State} (move : Move i s0 s t) (ok : ∀ j, (s.station j).inRange)
    (j : Station) : (t.station j).inRange := by
  rcases move.station_cases j with run | reset | ⟨enabled, live, test, reset⟩
  · exact run.keep (fun _ _ => StationMove.inRange) (ok j)
  · exact reset ▸ StationState.reset_inRange
  · rw [reset]
    exact ok j

/-! ## Tables and settings -/

theorem StationEntryCfg.default_inRange : StationEntryCfg.default.inRange :=
  ⟨by decide, by decide, .inl rfl⟩

theorem DetectorSet.default_inRange : DetectorSet.default.inRange := by
  simp [DetectorSet.inRange, DetectorSet.default]

theorem AssocParams.default_inRange : AssocParams.default.inRange := by
  simp [AssocParams.inRange, AssocParams.default]

theorem Bank.default_inRange : Bank.default.inRange := by
  refine ⟨fun i => ?_, fun n => ?_, fun i => ?_, AssocParams.default_inRange⟩
  · simp [Bank.station, Bank.default, StationEntryCfg.default_inRange]
  · simp [Bank.default, DetectorSet.default_inRange]
  · simp [Bank.neighbourList, Bank.default, neighboursInRange]

theorem State.tablesInRange_default {s : State} (active : s.ctrl.active = Bank.default)
    (shadow : s.ctrl.shadow = Bank.default) (settings : s.ctrl.settings = Settings.default) : s.tablesInRange := by
  unfold State.tablesInRange
  rw [active, shadow, settings]
  exact ⟨Bank.default_inRange, Bank.default_inRange, by decide, by decide⟩

theorem State.tablesInRange_of_eq {s t : State} (active : t.ctrl.active = s.ctrl.active)
    (shadow : t.ctrl.shadow = s.ctrl.shadow) (settings : t.ctrl.settings = s.ctrl.settings) (ok : s.tablesInRange) :
    t.tablesInRange := by
  unfold State.tablesInRange
  rw [active, shadow, settings]
  exact ok

theorem BankMove.tables {s t : State} (move : BankMove s t) (ok : s.tablesInRange) : t.tablesInRange := by
  obtain ⟨active, shadow, settings⟩ := ok
  cases move with
  | stored b free range => exact ⟨active, range active shadow, settings⟩
  | completed all => exact ⟨shadow, active, settings⟩
  | instant n =>
    refine State.tablesInRange_of_eq ?_ ?_ ?_ ⟨active, shadow, settings⟩ <;>
      (unfold State.bankInstant; dsimp only; split_ifs <;> rfl)
  | left l =>
    refine State.tablesInRange_of_eq ?_ ?_ ?_ ⟨active, shadow, settings⟩ <;>
      (unfold State.bankLeft; dsimp only; split_ifs <;> rfl)
  | scheduled p free =>
    rw [State.schedule_eq, State.scheduleLine_frame, State.scheduleLine_frame]
    exact ⟨active, shadow, settings⟩
  | _ => exact ⟨active, shadow, settings⟩

theorem Move.tables {i : Instr} {s0 s t : State} (move : Move i s0 s t) (ok : s.tablesInRange) : t.tablesInRange := by
  cases move with
  | settings x silence gap => exact ⟨ok.1, ok.2.1, silence, gap⟩
  | bank _ move => exact move.tables ok
  | assoc _ move => rw [move.frame]; exact ok
  | capture _ move => rw [move.frame]; exact ok
  | fullReset => exact State.tablesInRange_default rfl rfl rfl
  | powerOn => exact State.tablesInRange_default rfl rfl rfl
  | _ => exact ok

/-- Settles O25: the arithmetic of an instant stays in its ranges by the saturation of R39 and the averages' way toward
E, and the tables hold what loading has clamped. -/
theorem arithmeticStaysInRange : Obligations.ArithmeticStaysInRange :=
  ⟨fun _ _ ok next => step_keeps (P := fun u => ∀ j, (u.station j).inRange) (fun _ ok => ok)
      (fun _ _ _ _ _ move ok => move.station_inRange ok) ok next,
    fun _ _ ok next => step_keeps (P := State.tablesInRange) (fun _ ok => ok)
      (fun _ _ _ _ _ move ok => move.tables ok) ok next⟩

end Sys2Proof.Machine
end

section
/-! PROOFS. Pick lists hold each station once (R81, R101), and the record that each event of the capture engine leaves
at a place. -/

namespace Sys2Proof.Machine

/-! ## The records after each event of the capture engine -/

theorem State.entryChanged_record (s : State) (p q : Fin 32) (r : Record) (c : CaptureSection) (ch : EntryChange)
    (state : RecordState) : (s.entryChanged p r c ch state).record q =
      if q = p then some { r with state := state, capture := some { c with entries := ch.entries } }
      else s.record q := by
  rw [State.entryChanged, State.returnBlocks_record, State.setRecord_record]

theorem State.reserved_record (s : State) (p q : Fin 32) (r : Record) (m : DeclareMsg) (stations : List Station) :
    (s.reserved p r m stations).record q =
      if q = p then some { r with capture := some { captureWindow m with
        entries := s.planEntries (captureWindow m) stations s.capture.freeList } }
      else s.record q := s.setRecord_record p q _

/-- R105, R106, R113: the record of a declaration. -/
def State.newRecord (s : State) (m : DeclareMsg) : Record :=
  { number := s.unusedNumber 32 s.capture.nextNumber, state := .active, order := s.recordCount, anchor := m.anchor
    t0 := m.t0, earliest := m.earliest, generation := m.generation, picks := m.picks, switchClosed := false
    captureAbsent := false, captureDisabled := !m.captureEnable, capture := none }

theorem State.createRecord_record (s : State) (p q : Fin 32) (m : DeclareMsg) :
    (s.createRecord p m).record q = if q = p then some (s.newRecord m) else s.record q :=
  s.setRecord_record p q (some (s.newRecord m))

theorem State.startReadout_record (s : State) (p q : Fin 32) (r : Record) (sel : Selection) :
    (s.startReadout p r sel).record q = if q = p then some { r with state := .reading } else s.record q :=
  s.setRecord_record p q _

/-- R130: the end of a readout returns its record to READY. -/
theorem State.endReadout_record (s : State) (q : Fin 32) : s.endReadout.record q =
    if s.readout.record = some q then (s.record q).map fun r => { r with state := .ready } else s.record q := by
  unfold State.endReadout
  dsimp only
  split
  · rename_i none
    rw [none, if_neg (by simp)]
    rfl
  · rename_i p some
    rw [some]
    split
    · rename_i r held
      rw [State.setReadout_record, State.setRecord_record]
      by_cases same : q = p
      · subst same
        simp [held]
      · rw [if_neg same, if_neg (by simpa using fun h => same h.symm)]
    · rename_i none
      rw [State.setReadout_record]
      by_cases same : q = p
      · subst same
        simp [none]
      · rw [if_neg (by simpa using fun h => same h.symm)]

/-! ## Pick lists (R81, R101) -/

theorem picksDistinct_append {ps : List Pick} {p : Pick} (distinct : picksDistinct ps)
    (other : ∀ q ∈ ps, q.station ≠ p.station) : picksDistinct (ps ++ [p]) := by
  unfold picksDistinct
  rw [List.map_append, List.nodup_append]
  refine ⟨distinct, by simp, fun a mem b single => ?_⟩
  obtain ⟨q, memq, rfl⟩ := List.mem_map.mp mem
  simp only [List.map_cons, List.map_nil, List.mem_singleton] at single
  exact single ▸ other q memq

theorem PicksFrom.distinct {s : State} {ps : List Pick} (source : PicksFrom s ps) (ok : s.pickListsOk) :
    picksDistinct ps := by
  cases source with
  | kept k c held => exact ok.1 k c held
  | joined k c p held other => exact picksDistinct_append (ok.1 k c held) other
  | single p => simp [picksDistinct]

theorem AssocMove.pickLists {i : Instr} {s t : State} (move : AssocMove i s t) (ok : s.pickListsOk) :
    t.pickListsOk := by
  obtain ⟨candidates, messages, records⟩ := ok
  cases move with
  | slots slots order picks => exact ⟨fun k c held => (picks k c held).distinct ⟨candidates, messages, records⟩, messages, records⟩
  | sent m k c taking held picks =>
    refine ⟨candidates, fun m' mem => ?_, records⟩
    rcases List.mem_append.mp mem with old | new
    · exact messages m' old
    · rw [List.mem_singleton.mp new, picks]
      exact candidates k c held
  | dropped => exact ⟨candidates, fun m mem => messages m (List.mem_of_mem_tail mem), records⟩
  | viewed => exact ⟨candidates, messages, records⟩

/-- A record's pick list comes from the place's record before, or from a message in the channel when the command was
run. -/
theorem CaptureMove.picks {s0 s t : State} (move : CaptureMove s0 s t) {q : Fin 32} {x : Record}
    (held : t.record q = some x) :
    (∃ r, s.record q = some r ∧ x.picks = r.picks) ∨ ∃ m ∈ s0.channel, x.picks = m.picks := by
  cases move with
  | entry p r c st f state heldr =>
    rw [State.entryChanged_record] at held
    split_ifs at held with same
    · cases held
      exact .inl ⟨r, same ▸ heldr, rfl⟩
    · exact .inl ⟨x, held, rfl⟩
  | freed p r heldr =>
    rw [State.freeRecord_record _ _ _ _ heldr] at held
    split_ifs at held
    obtain ⟨y, heldy, rfl⟩ := Option.map_eq_some_iff.mp held
    refine .inl ⟨y, heldy, ?_⟩
    split_ifs <;> rfl
  | released p r heldr =>
    rw [State.setReadout_record, State.freeRecord_record _ _ _ _ heldr] at held
    split_ifs at held
    obtain ⟨y, heldy, rfl⟩ := Option.map_eq_some_iff.mp held
    refine .inl ⟨y, heldy, ?_⟩
    split_ifs <;> rfl
  | created p m free message =>
    rw [State.createRecord_record] at held
    split_ifs at held
    · cases held
      exact .inr ⟨_, message, rfl⟩
    · exact .inl ⟨x, held, rfl⟩
  | placed p r m stations heldr =>
    rw [State.reserved_record] at held
    split_ifs at held with same
    · cases held
      exact .inl ⟨r, same ▸ heldr, rfl⟩
    · exact .inl ⟨x, held, rfl⟩
  | absent p r heldr =>
    rw [State.setRecord_record] at held
    split_ifs at held with same
    · cases held
      exact .inl ⟨r, same ▸ heldr, rfl⟩
    · exact .inl ⟨x, held, rfl⟩
  | unmapped k y none => exact .inl ⟨x, held, rfl⟩
  | closed p r m entry heldr message =>
    rw [State.setRecord_record] at held
    split_ifs at held
    · cases held
      exact .inr ⟨_, message, rfl⟩
    · exact .inl ⟨x, held, rfl⟩
  | readout y => exact .inl ⟨x, held, rfl⟩
  | started p r sel heldr =>
    rw [State.startReadout_record] at held
    split_ifs at held with same
    · cases held
      exact .inl ⟨r, same ▸ heldr, rfl⟩
    · exact .inl ⟨x, held, rfl⟩
  | ended =>
    rw [State.endReadout_record] at held
    split_ifs at held
    · obtain ⟨r, heldr, rfl⟩ := Option.map_eq_some_iff.mp held
      exact .inl ⟨r, heldr, rfl⟩
    · exact .inl ⟨x, held, rfl⟩

theorem CaptureMove.pickLists {s0 s t : State} (move : CaptureMove s0 s t) (messages : s0.pickListsOk)
    (ok : s.pickListsOk) : t.pickListsOk := by
  refine ⟨?_, ?_, fun q x held => ?_⟩
  · rw [move.frame]
    exact ok.1
  · rw [move.frame]
    exact ok.2.1
  · rcases move.picks held with ⟨r, heldr, picks⟩ | ⟨m, mem, picks⟩
    · exact picks ▸ ok.2.2 q r heldr
    · exact picks ▸ messages.2.1 m mem

/-- After each of the three resets there is no candidate, no message and no record. -/
theorem State.pickListsOk_of_empty {s : State} (slots : ∀ k, s.candidate k = none) (channel : s.channel = [])
    (records : ∀ p, s.record p = none) : s.pickListsOk := by
  refine ⟨fun k c held => ?_, fun m mem => ?_, fun p r held => ?_⟩
  · rw [slots k] at held
    cases held
  · rw [channel] at mem
    cases mem
  · rw [records p] at held
    cases held

theorem Associator.reset_slots (k : Fin 16) : Associator.reset.slots[k] = none := by simp [Associator.reset]

theorem CaptureEngine.reset_records (p : Fin 32) : CaptureEngine.reset.records[p] = none := by
  simp [CaptureEngine.reset]

theorem Move.pickLists {i : Instr} {s0 s t : State} (messages : s0.pickListsOk) (move : Move i s0 s t)
    (ok : s.pickListsOk) : t.pickListsOk := by
  cases move with
  | bank _ move =>
    rw [move.frame]
    exact ok
  | assoc _ move => exact move.pickLists ok
  | capture _ move => exact move.pickLists messages ok
  | engineReset => exact State.pickListsOk_of_empty Associator.reset_slots rfl CaptureEngine.reset_records
  | fullReset => exact State.pickListsOk_of_empty Associator.reset_slots rfl CaptureEngine.reset_records
  | powerOn => exact State.pickListsOk_of_empty Associator.reset_slots rfl CaptureEngine.reset_records
  | _ => exact ok

/-- Settles O39: a candidate is joined by a pick of a station it does not hold, and messages and records carry the
lists of candidates. -/
theorem pickListsHoldEachStationOnce : Obligations.PickListsHoldEachStationOnce :=
  fun _ _ ok next => step_keeps (P := State.pickListsOk) (fun _ ok => ok)
    (fun _ _ _ _ messages move ok => move.pickLists messages ok) ok next

end Sys2Proof.Machine
end

section
/-! PROOFS. The capture sections of the records: the copied run stays contiguous (R114), the station entries stay in
ascending order (R101), and every block stays accounted for (R110). -/

namespace Sys2Proof.Machine

/-! ## The capture section of a place after each event -/

/-- Where the capture section of a record after an event comes from: the place's record before, that section after an
event at one entry, or the plan of a reservation. -/
inductive SectionFrom (s : State) (q : Fin 32) : CaptureSection → Prop
  | kept (r : Record) (c : CaptureSection) (held : s.record q = some r) (capture : r.capture = some c) :
      SectionFrom s q c
  | changed (r : Record) (c : CaptureSection) (st : Station) (f : StationEntry → StationEntry)
      (held : s.record q = some r) (capture : r.capture = some c)
      (move : ∀ e, r.entry st = some e → EntryMove c e (f e)) (station : ∀ e, (f e).station = e.station) :
      SectionFrom s q { c with entries := (c.changeEntry st f c.entries).entries }
  | planned (m : DeclareMsg) (stations : List Station) (ascending : stations.Pairwise (fun i j => i < j)) :
      SectionFrom s q { captureWindow m with entries := s.planEntries (captureWindow m) stations s.capture.freeList }

theorem SectionFrom.of_freed {s : State} {p q : Fin 32} {r x : Record} {c : CaptureSection}
    (heldr : s.record p = some r) (held : (s.freeRecord p).record q = some x) (capture : x.capture = some c) :
    SectionFrom s q c := by
  rw [State.freeRecord_record _ _ _ _ heldr] at held
  split_ifs at held
  obtain ⟨y, heldy, rfl⟩ := Option.map_eq_some_iff.mp held
  refine .kept y c heldy ?_
  split_ifs at capture <;> exact capture

theorem CaptureMove.capture_of {s0 s t : State} (move : CaptureMove s0 s t) {q : Fin 32} {x : Record}
    {c : CaptureSection} (held : t.record q = some x) (capture : x.capture = some c) : SectionFrom s q c := by
  cases move with
  | entry p r cr st f state heldr capturer move _ station =>
    rw [State.entryChanged_record] at held
    split_ifs at held with same
    · cases held
      cases capture
      exact .changed r cr st f (same ▸ heldr) capturer move station
    · exact .kept x c held capture
  | freed p r heldr => exact .of_freed heldr held capture
  | released p r heldr => exact .of_freed heldr held capture
  | created p m free message =>
    rw [State.createRecord_record] at held
    split_ifs at held
    · cases held
      cases capture
    · exact .kept x c held capture
  | placed p r m stations heldr _ _ ascending =>
    rw [State.reserved_record] at held
    split_ifs at held
    · cases held
      cases capture
      exact .planned m stations ascending
    · exact .kept x c held capture
  | absent p r heldr =>
    rw [State.setRecord_record] at held
    split_ifs at held with same
    · cases held
      exact .kept r c (same ▸ heldr) capture
    · exact .kept x c held capture
  | closed p r m entry heldr =>
    rw [State.setRecord_record] at held
    split_ifs at held with same
    · cases held
      exact .kept r c (same ▸ heldr) capture
    · exact .kept x c held capture
  | started p r sel heldr =>
    rw [State.startReadout_record] at held
    split_ifs at held with same
    · cases held
      exact .kept r c (same ▸ heldr) capture
    · exact .kept x c held capture
  | ended =>
    rw [State.endReadout_record] at held
    split_ifs at held
    · obtain ⟨r, heldr, rfl⟩ := Option.map_eq_some_iff.mp held
      exact .kept r c heldr capture
    · exact .kept x c held capture
  | _ => exact .kept x c held capture

/-- An entry after an event at a station's entry: another entry as it was, or the station's after the event, its chain
apart. -/
theorem CaptureSection.mem_changeEntry {c : CaptureSection} {st : Station} {f : StationEntry → StationEntry}
    {e' : StationEntry} : ∀ {es : List StationEntry}, e' ∈ (c.changeEntry st f es).entries →
    e' ∈ es ∨ ∃ e chain, es.find? (fun e => decide (e.station = st)) = some e ∧ e' = { f e with chain := chain }
  | [], mem => .inl mem
  | e :: rest, mem => by
    by_cases here : e.station = st
    · simp only [CaptureSection.changeEntry, here, ↓reduceIte] at mem
      have found : (e :: rest).find? (fun e => decide (e.station = st)) = some e :=
        List.find?_cons_of_pos (decide_eq_true here)
      split at mem
      · rcases List.mem_cons.mp mem with rfl | old
        · exact .inr ⟨e, _, found, rfl⟩
        · exact .inl (List.mem_cons_of_mem _ old)
      · rcases List.mem_cons.mp mem with rfl | old
        · exact .inr ⟨e, (f e).chain, found, rfl⟩
        · exact .inl (List.mem_cons_of_mem _ old)
    · simp only [CaptureSection.changeEntry, here, ↓reduceIte] at mem
      rcases List.mem_cons.mp mem with rfl | old
      · exact .inl List.mem_cons_self
      · rcases CaptureSection.mem_changeEntry old with mem' | ⟨d, chain, found, rfl⟩
        · exact .inl (List.mem_cons_of_mem _ mem')
        · refine .inr ⟨d, chain, ?_, rfl⟩
          rwa [List.find?_cons_of_neg (by simpa using here)]

theorem Record.entry_of_capture {r : Record} {c : CaptureSection} (capture : r.capture = some c) (st : Station) :
    r.entry st = c.entries.find? (fun e => decide (e.station = st)) := by
  rw [Record.entry, Record.entries, capture]

/-! ## The copied run (R114) -/

theorem EntryMove.runOk {c : CaptureSection} {e e' : StationEntry} (move : EntryMove c e e') (ok : c.runOk e) :
    c.runOk e' := by
  obtain ⟨count, read, done, first, filled, known, direct⟩ := ok
  cases move with
  | bulk hit going =>
    have short : e.bulkRead < c.bulkLength e.boundary :=
      lt_of_le_of_ne read fun full => by rw [done.mpr full] at going; cases going
    cases hit with
    | none =>
      refine ⟨Nat.zero_le _, short, ?_, fun none => absurd none (lt_irrefl 0), le_rfl, Nat.zero_le _, ?_⟩
      · simp only [bulkStep, decide_eq_true_eq]
        omega
      · exact direct
    | some mark =>
      have one : mark.toNat ≤ 1 := by cases mark <;> decide
      refine ⟨Nat.succ_le_succ count, short, ?_, fun _ => ?_, ?_, ?_, ?_⟩
      · simp only [bulkStep, decide_eq_true_eq]
        omega
      · simp only [bulkStep, Nat.add_sub_add_right]
        split_ifs with none
        · rw [none, Nat.sub_zero]
        · exact first (Nat.pos_of_ne_zero none)
      · simp only [bulkStep]
        omega
      · simp only [bulkStep]
        omega
      · simp only [bulkStep]
        omega
  | direct n test mark =>
    have one : mark.toNat ≤ 1 := by cases mark <;> decide
    refine ⟨count, read, done, first, filled, ?_, ?_⟩
    · simp only [directStep]
      omega
    · simp only [directStep]
      omega
  | lost =>
    unfold lineLostStep
    split_ifs <;> exact ⟨count, read, done, first, filled, known, direct⟩

/-- R112: a planned entry has read nothing, and is done at once where its bulk range is empty. -/
theorem CaptureSection.newEntry_runOk (c : CaptureSection) (boundary : Option Index) (st : Station)
    (blocks : List Nat) : c.runOk (c.newEntry boundary st blocks) := by
  refine ⟨le_rfl, Nat.zero_le _, ?_, fun none => absurd none (lt_irrefl 0), le_rfl, le_rfl, le_rfl⟩
  simp only [CaptureSection.newEntry, decide_eq_true_eq]
  exact eq_comm

theorem State.mem_planEntries {s : State} {c : CaptureSection} {e : StationEntry} :
    ∀ {stations : List Station} {free : List Nat}, e ∈ s.planEntries c stations free →
      ∃ boundary st blocks, e = c.newEntry boundary st blocks
  | [], _, mem => by cases mem
  | st :: rest, free, mem => by
    rcases List.mem_cons.mp mem with rfl | later
    · exact ⟨_, _, _, rfl⟩
    · exact State.mem_planEntries later

theorem SectionFrom.runOk {s : State} {q : Fin 32} {c : CaptureSection} (source : SectionFrom s q c)
    (ok : s.runsOk) : ∀ e ∈ c.entries, c.runOk e := by
  cases source with
  | kept r _ held capture => exact ok q r c held capture
  | changed r c st f held capture move station =>
    intro e' mem
    rcases CaptureSection.mem_changeEntry mem with old | ⟨e, chain, found, rfl⟩
    · exact ok q r c held capture e' old
    · have before := ok q r c held capture e (List.mem_of_find?_eq_some found)
      exact (move e ((Record.entry_of_capture capture st).trans found)).runOk before
  | planned m stations ascending =>
    intro e mem
    obtain ⟨boundary, st, blocks, rfl⟩ := State.mem_planEntries mem
    exact (captureWindow m).newEntry_runOk boundary st blocks

theorem State.runsOk_of_empty {s : State} (records : ∀ p, s.record p = none) : s.runsOk := by
  intro p r c held
  rw [records p] at held
  cases held

theorem Move.runs {i : Instr} {s0 s t : State} (move : Move i s0 s t) (ok : s.runsOk) : t.runsOk := by
  cases move with
  | bank _ move =>
    rw [move.frame]
    exact ok
  | assoc _ move =>
    rw [move.frame]
    exact ok
  | capture _ move => exact fun q x c held capture => (move.capture_of held capture).runOk ok
  | engineReset => exact State.runsOk_of_empty CaptureEngine.reset_records
  | fullReset => exact State.runsOk_of_empty CaptureEngine.reset_records
  | powerOn => exact State.runsOk_of_empty CaptureEngine.reset_records
  | _ => exact ok

/-- Settles O45: each event at a station entry keeps its run contiguous, and a planned entry has none. -/
theorem copiedRunStaysContiguous : Obligations.CopiedRunStaysContiguous :=
  fun _ _ ok next => step_keeps (P := State.runsOk) (fun _ ok => ok) (fun _ _ _ _ _ move ok => move.runs ok) ok next

/-! ## Ascending stations (R101) -/

theorem State.planEntries_stations (s : State) (c : CaptureSection) : ∀ (stations : List Station) (free : List Nat),
    (s.planEntries c stations free).map StationEntry.station = stations
  | [], _ => rfl
  | st :: rest, free => by
    rw [State.planEntries, List.map_cons, State.planEntries_stations s c rest]
    rfl

theorem Record.entries_of_some {r : Record} {c : CaptureSection} (capture : r.capture = some c) :
    r.entries = c.entries := by rw [Record.entries, capture]

theorem Record.entries_of_none {r : Record} (capture : r.capture = none) : r.entries = [] := by
  rw [Record.entries, capture]

theorem SectionFrom.ascend {s : State} {q : Fin 32} {c : CaptureSection} (source : SectionFrom s q c)
    (ok : s.entriesAscend) : (c.entries.map StationEntry.station).Pairwise (fun i j => i < j) := by
  cases source with
  | kept r _ held capture => exact Record.entries_of_some capture ▸ ok q r held
  | changed r c st f held capture move station =>
    dsimp only
    rw [CaptureSection.changeEntry_stations c st f station]
    exact Record.entries_of_some capture ▸ ok q r held
  | planned m stations ascending =>
    dsimp only
    rwa [State.planEntries_stations]

theorem CaptureMove.ascend {s0 s t : State} (move : CaptureMove s0 s t) (ok : s.entriesAscend) : t.entriesAscend := by
  intro q x held
  cases capture : x.capture with
  | none => simp [Record.entries_of_none capture]
  | some c =>
    rw [Record.entries_of_some capture]
    exact (move.capture_of held capture).ascend ok

theorem State.entriesAscend_of_empty {s : State} (records : ∀ p, s.record p = none) : s.entriesAscend := by
  intro p r held
  rw [records p] at held
  cases held

theorem Move.ascend {i : Instr} {s0 s t : State} (move : Move i s0 s t) (ok : s.entriesAscend) : t.entriesAscend := by
  cases move with
  | bank _ move =>
    rw [move.frame]
    exact ok
  | assoc _ move =>
    rw [move.frame]
    exact ok
  | capture _ move => exact move.ascend ok
  | engineReset => exact State.entriesAscend_of_empty CaptureEngine.reset_records
  | fullReset => exact State.entriesAscend_of_empty CaptureEngine.reset_records
  | powerOn => exact State.entriesAscend_of_empty CaptureEngine.reset_records
  | _ => exact ok

end Sys2Proof.Machine
end

section
/-! PROOFS. Every block stays accounted for (R110). -/

namespace Sys2Proof.Machine

/-! ## The blocks of the records, place by place -/

/-- The blocks in the chains of the record of a place. -/
def State.blocksAt (s : State) (p : Fin 32) : List Nat :=
  match s.record p with
  | some r => r.blocks
  | none => []

theorem State.blocksAt_some {s : State} {p : Fin 32} {r : Record} (held : s.record p = some r) :
    s.blocksAt p = r.blocks := by rw [State.blocksAt, held]

theorem State.blocksAt_none {s : State} {p : Fin 32} (free : s.record p = none) : s.blocksAt p = [] := by
  rw [State.blocksAt, free]

theorem State.blocksAt_of_record {s t : State} {p : Fin 32} (same : t.record p = s.record p) :
    t.blocksAt p = s.blocksAt p := by rw [State.blocksAt, State.blocksAt, same]

theorem flatten_map_filterMap {α β γ : Type} (f : α → Option β) (g : β → List γ) : ∀ as : List α,
    ((as.filterMap f).map g).flatten = as.flatMap fun a => match f a with
      | some b => g b
      | none => []
  | [] => rfl
  | a :: as => by
    rw [List.flatMap_cons, ← flatten_map_filterMap f g as]
    cases h : f a <;> simp [h]

theorem State.chainedBlocks_eq (s : State) : s.chainedBlocks = allPlaces.flatMap s.blocksAt :=
  (flatten_map_filterMap s.record Record.blocks allPlaces).trans
    (List.flatMap_congr fun p _ => by unfold State.blocksAt; cases s.record p <;> rfl)

/-- The blocks of one place taken in front of the others'. -/
theorem State.chainedBlocks_perm (s : State) (p : Fin 32) :
    List.Perm s.chainedBlocks (s.blocksAt p ++ (allPlaces.erase p).flatMap s.blocksAt) := by
  rw [State.chainedBlocks_eq, ← List.flatMap_cons]
  exact (List.perm_cons_erase (mem_allPlaces p)).flatMap_right _

/-- Blocks stay accounted for when they only move between the free list and the record of one place. -/
theorem State.blocksAccounted_of_place {s t : State} (ok : s.blocksAccounted) (p : Fin 32)
    (others : ∀ q, q ≠ p → t.blocksAt q = s.blocksAt q)
    (moved : List.Perm (t.capture.freeList ++ t.blocksAt p) (s.capture.freeList ++ s.blocksAt p)) :
    t.blocksAccounted := by
  have rest : (allPlaces.erase p).flatMap t.blocksAt = (allPlaces.erase p).flatMap s.blocksAt :=
    List.flatMap_congr fun q mem => others q (allPlaces_nodup.mem_erase_iff.mp mem).1
  have split (u : State) : List.Perm (u.capture.freeList ++ u.chainedBlocks)
      (u.capture.freeList ++ u.blocksAt p ++ (allPlaces.erase p).flatMap u.blocksAt) := by
    rw [List.append_assoc]
    exact (u.chainedBlocks_perm p).append_left _
  refine (split t).trans (List.Perm.trans ?_ ((split s).symm.trans ok))
  rw [rest]
  exact moved.append_right _

/-- Blocks stay accounted for where no chain and not the free list changes. -/
theorem State.blocksAccounted_of_same {s t : State} (ok : s.blocksAccounted)
    (blocks : ∀ q, t.blocksAt q = s.blocksAt q) (free : t.capture.freeList = s.capture.freeList) :
    t.blocksAccounted :=
  State.blocksAccounted_of_place ok 0 (fun q _ => blocks q) (by rw [free, blocks])

/-! ## The blocks of a record -/

theorem Record.blocks_of_entries {r x : Record} (same : x.entries = r.entries) : x.blocks = r.blocks := by
  rw [Record.blocks, Record.blocks, same]

theorem Record.blocks_of_capture {r x : Record} (same : x.capture = r.capture) : x.blocks = r.blocks :=
  Record.blocks_of_entries (by rw [Record.entries, Record.entries, same])

theorem Record.blocks_of_none {r : Record} (none : r.capture = none) : r.blocks = [] := by
  rw [Record.blocks, Record.entries_of_none none]
  rfl

theorem Record.blocks_of_some {r : Record} {c : CaptureSection} (capture : r.capture = some c) :
    r.blocks = entriesBlocks c.entries := by
  rw [Record.blocks, Record.entries_of_some capture]
  rfl

/-- R111: the entries of a plan hold the blocks at the front of the free list. -/
theorem State.planEntries_blocks (s : State) (c : CaptureSection) : ∀ (stations : List Station) (free : List Nat),
    entriesBlocks (s.planEntries c stations free) = free.take (stations.length * c.blocksPerStation)
  | [], _ => by simp [State.planEntries]
  | st :: rest, free => by
    have chain : chainBlocks ((free.take c.blocksPerStation).map some) = free.take c.blocksPerStation := by
      simp [chainBlocks, List.filterMap_map]
    rw [State.planEntries, entriesBlocks_cons, State.planEntries_blocks s c rest, List.length_cons, Nat.add_mul,
      Nat.one_mul, Nat.add_comm, List.take_add]
    exact congrArg (· ++ _) chain

theorem State.freeRecord_blocks {s : State} {p : Fin 32} {r : Record} (held : s.record p = some r) (q : Fin 32) :
    (s.freeRecord p).blocksAt q = if q = p then [] else s.blocksAt q := by
  have after := State.freeRecord_record s p q r held
  split_ifs with same
  · exact State.blocksAt_none (by rw [after, if_pos same])
  · rw [if_neg same] at after
    cases before : s.record q with
    | none => rw [State.blocksAt_none before, State.blocksAt_none (by rw [after, before]; rfl)]
    | some x =>
      rw [before, Option.map_some] at after
      rw [State.blocksAt_some before, State.blocksAt_some after]
      split_ifs
      · exact Record.blocks_of_capture rfl
      · rfl

theorem State.freeRecord_blocksAccounted {s : State} {p : Fin 32} {r : Record} (held : s.record p = some r)
    (ok : s.blocksAccounted) : (s.freeRecord p).blocksAccounted := by
  refine State.blocksAccounted_of_place ok p (fun q other => ?_) ?_
  · rw [State.freeRecord_blocks held, if_neg other]
  · rw [State.freeRecord_blocks held, if_pos rfl, State.freeRecord_freeList _ _ _ held, State.blocksAt_some held,
      List.append_nil]

/-- A record replaced by one with the same chains moves no block. -/
theorem State.setRecord_blocksAccounted {s : State} {p : Fin 32} {r x : Record} (held : s.record p = some r)
    (same : x.blocks = r.blocks) (ok : s.blocksAccounted) : (s.setRecord p (some x)).blocksAccounted := by
  refine State.blocksAccounted_of_place ok p (fun q other => ?_) ?_
  · exact State.blocksAt_of_record (State.setRecord_record_other s _ other)
  · rw [State.blocksAt_some (State.setRecord_record_same s p _), State.blocksAt_some held, same]
    rfl

theorem CaptureMove.blocks {s0 s t : State} (move : CaptureMove s0 s t) (ok : s.blocksAccounted) :
    t.blocksAccounted := by
  cases move with
  | entry p r c st f state held capture _ chain =>
    refine State.blocksAccounted_of_place ok p (fun q other => ?_) ?_
    · exact State.blocksAt_of_record (by rw [State.entryChanged_record, if_neg other])
    · have after := State.entryChanged_record s p p r c (c.changeEntry st f c.entries) state
      rw [if_pos rfl] at after
      rw [State.blocksAt_some after, Record.blocks_of_some rfl, State.blocksAt_some held,
        Record.blocks_of_some capture, State.entryChanged, State.returnBlocks_freeList, State.setRecord_freeList,
        List.append_assoc]
      exact (c.changeEntry_blocks st f chain c.entries).append_left _
  | freed p r held => exact State.freeRecord_blocksAccounted held ok
  | released p r held => exact State.freeRecord_blocksAccounted held ok
  | created p m free =>
    refine State.blocksAccounted_of_same ok (fun q => ?_) rfl
    have after := s.createRecord_record p q m
    split_ifs at after with same
    · rw [State.blocksAt_some after, same, State.blocksAt_none free, Record.blocks_of_none rfl]
    · exact State.blocksAt_of_record after
  | placed p r m stations held _ none =>
    refine State.blocksAccounted_of_place ok p (fun q other => ?_) ?_
    · exact State.blocksAt_of_record (by rw [State.reserved_record, if_neg other])
    · have after := s.reserved_record p p r m stations
      rw [if_pos rfl] at after
      rw [State.blocksAt_some after, Record.blocks_of_some rfl, State.blocksAt_some held, Record.blocks_of_none none,
        State.planEntries_blocks, List.append_nil]
      exact List.perm_append_comm.trans (List.Perm.of_eq (List.take_append_drop _ _))
  | absent p r held => exact State.setRecord_blocksAccounted held (Record.blocks_of_capture rfl) ok
  | closed p r m entry held =>
    exact State.setRecord_blocksAccounted (s := s.setMap m.slot .empty) held (Record.blocks_of_capture rfl) ok
  | started p r sel held => exact State.setRecord_blocksAccounted held (Record.blocks_of_capture rfl) ok
  | ended =>
    refine State.blocksAccounted_of_same ok (fun q => ?_) ?_
    · have after := s.endReadout_record q
      split_ifs at after
      · cases before : s.record q with
        | none => exact State.blocksAt_of_record (by rw [after, before]; rfl)
        | some r =>
          rw [before] at after
          rw [State.blocksAt_some after, State.blocksAt_some before]
          exact Record.blocks_of_capture rfl
      · exact State.blocksAt_of_record after
    · unfold State.endReadout
      dsimp only
      split
      · rfl
      · split <;> rfl
  | _ => exact ok

theorem CaptureEngine.reset_blocksAccounted {s : State} (capture : s.capture = CaptureEngine.reset) :
    s.blocksAccounted := by
  have free (p : Fin 32) : s.blocksAt p = [] :=
    State.blocksAt_none (by rw [State.record, capture, CaptureEngine.reset_records])
  have none : s.chainedBlocks = [] := by
    rw [State.chainedBlocks_eq, List.flatMap_eq_nil_iff]
    exact fun p _ => free p
  have list : s.capture.freeList = List.range Config.poolBlocks := by rw [capture, CaptureEngine.reset]
  rw [State.blocksAccounted, none, list, List.append_nil]
  exact List.Perm.of_eq (congrArg List.range (show Config.poolBlocks = 1024 from rfl))

theorem Move.blocks {i : Instr} {s0 s t : State} (move : Move i s0 s t) (ok : s.blocksAccounted) :
    t.blocksAccounted := by
  cases move with
  | bank _ move =>
    rw [move.frame]
    exact ok
  | assoc _ move =>
    rw [move.frame]
    exact ok
  | capture _ move => exact move.blocks ok
  | engineReset => exact CaptureEngine.reset_blocksAccounted rfl
  | fullReset => exact CaptureEngine.reset_blocksAccounted rfl
  | powerOn => exact CaptureEngine.reset_blocksAccounted rfl
  | _ => exact ok

/-- Settles O48: each event of the capture engine moves blocks only between the free list and the record of one place. -/
theorem blocksStayAccounted : Obligations.BlocksStayAccounted :=
  fun _ _ ok next => step_keeps (P := State.blocksAccounted) (fun _ ok => ok) (fun _ _ _ _ _ move ok => move.blocks ok)
    ok next

end Sys2Proof.Machine
end

section
/-! PROOFS. The switch state of the three blocks, and the activity of the detectors (O28). -/

namespace Sys2Proof.Machine

/-! ## The switch state of one block (R61, R97, R153, R158) -/

theorem State.blockSwitchOk_congr {s t : State} {b : SwitchBlock} (ok : s.blockSwitchOk b)
    (scheduled : t.ctrl.scheduled = s.ctrl.scheduled) (pending : t.pendingSwitch b = s.pendingSwitch b)
    (use : t.bankInUse b = s.bankInUse b)
    (reports : t.liveReports b + (t.ctrl.marks.get b).toNat = s.liveReports b + (s.ctrl.marks.get b).toNat) :
    t.blockSwitchOk b := by
  unfold State.blockSwitchOk
  rw [scheduled, pending, use, reports]
  exact ok

/-- A block that uses the active bank, with no report on its way and no mark. -/
theorem State.blockSwitchOk_of_active {s : State} {b : SwitchBlock} (use : s.bankInUse b = .active)
    (pending : (s.pendingSwitch b).isSome = true → s.ctrl.scheduled.isSome = true)
    (reports : s.liveReports b + (s.ctrl.marks.get b).toNat = 0) : s.blockSwitchOk b := by
  unfold State.blockSwitchOk
  rw [use, reports]
  exact ⟨fun h => ⟨pending h, rfl⟩, (fun h => nomatch h), rfl⟩

/-- A block that has switched. -/
theorem State.blockSwitchOk_of_shadow {s : State} {b : SwitchBlock} (use : s.bankInUse b = .shadow)
    (pending : s.pendingSwitch b = none) (scheduled : s.ctrl.scheduled.isSome = true)
    (reports : s.liveReports b + (s.ctrl.marks.get b).toNat = 1) : s.blockSwitchOk b := by
  unfold State.blockSwitchOk
  rw [use, pending, reports]
  exact ⟨(fun h => nomatch h), fun _ => scheduled, rfl⟩

/-- R153: while no switch is pending every block uses the active bank, and nothing is on its way. -/
theorem State.blockSwitchOk.of_unscheduled {s : State} {b : SwitchBlock} (ok : s.blockSwitchOk b)
    (free : s.ctrl.scheduled = none) :
    s.bankInUse b = .active ∧ s.pendingSwitch b = none ∧ s.liveReports b + (s.ctrl.marks.get b).toNat = 0 := by
  obtain ⟨pending, shadow, reports⟩ := ok
  have active : s.bankInUse b = .active := by
    cases use : s.bankInUse b with
    | active => rfl
    | shadow => have h := shadow use; rw [free] at h; cases h
  refine ⟨active, ?_, by rw [reports, active]; rfl⟩
  cases point : s.pendingSwitch b with
  | none => rfl
  | some p => have h := (pending (by rw [point]; rfl)).1; rw [free] at h; cases h

theorem State.liveReports_sendReport (s : State) (b c : SwitchBlock) :
    (s.sendReport b).liveReports c = s.liveReports c + if b = c then 1 else 0 := by
  simp [State.liveReports, State.sendReport, List.countP_append, List.countP_singleton]

/-- A report taken out of the list was one of its block's. -/
theorem takeReportOf_spec {b : SwitchBlock} : ∀ {rs : List SwitchReport} {r : SwitchReport} {rest : List SwitchReport},
    takeReportOf b rs = some (r, rest) →
      r.block = b ∧ ∀ f : SwitchReport → Bool, rs.countP f = rest.countP f + (f r).toNat
  | [], _, _, found => by cases found
  | x :: xs, r, rest, found => by
    unfold takeReportOf at found
    split_ifs at found with here
    · cases found
      exact ⟨here, fun f => by rw [List.countP_cons]; cases f x <;> simp⟩
    · obtain ⟨⟨r', rest'⟩, inner, same⟩ := Option.map_eq_some_iff.mp found
      cases same
      obtain ⟨block, count⟩ := takeReportOf_spec inner
      exact ⟨block, fun f => by rw [List.countP_cons, List.countP_cons, count f]; exact Nat.add_right_comm _ _ _⟩

theorem State.bankInUse_line (s : State) (l : Line) : s.bankInUse (lineBlock l) = (s.bankLine l).inUse := by
  cases l <;> rfl

theorem State.pendingSwitch_line (s : State) (l : Line) : s.pendingSwitch (lineBlock l) = (s.bankLine l).switch := by
  cases l <;> rfl

/-- What the detector bank holds for a line says nothing of another block's switch. -/
theorem State.setBankLine_otherBlock (s : State) {l : Line} {b : SwitchBlock} (x : BankLine) (other : lineBlock l ≠ b) :
    (s.setBankLine l x).pendingSwitch b = s.pendingSwitch b ∧ (s.setBankLine l x).bankInUse b = s.bankInUse b := by
  match l, b, other with
  | .a, .lineA, other | .b, .lineB, other => exact absurd rfl other
  | .a, .lineB, _ | .a, .associator, _ | .b, .lineA, _ | .b, .associator, _ => exact ⟨rfl, rfl⟩

theorem State.assocSwitched_otherBlock (s : State) {b : SwitchBlock} (other : SwitchBlock.associator ≠ b) :
    s.assocSwitched.pendingSwitch b = s.pendingSwitch b ∧ s.assocSwitched.bankInUse b = s.bankInUse b := by
  match b, other with
  | .associator, other => exact absurd rfl other
  | .lineA, _ | .lineB, _ => exact ⟨rfl, rfl⟩

/-- What the detector bank holds for a line is replaced, but for its bank and its pending mark. -/
theorem State.switchOk_setBankLine {s : State} {l : Line} {x : BankLine} (ok : s.switchOk)
    (use : x.inUse = (s.bankLine l).inUse) (pending : x.switch = (s.bankLine l).switch) :
    (s.setBankLine l x).switchOk := by
  intro b
  have same : (s.setBankLine l x).pendingSwitch b = s.pendingSwitch b ∧
      (s.setBankLine l x).bankInUse b = s.bankInUse b := by
    by_cases mine : lineBlock l = b
    · subst mine
      rw [State.pendingSwitch_line, State.pendingSwitch_line, State.bankInUse_line, State.bankInUse_line,
        State.setBankLine_bankLine_same]
      exact ⟨pending, use⟩
    · exact s.setBankLine_otherBlock x mine
  exact State.blockSwitchOk_congr (ok b) rfl same.1 same.2 rfl

/-- R61: a line with a pending mark takes the shadow bank into use and reports it. -/
theorem State.switchOk_takeShadow {s : State} {l : Line} (ok : s.switchOk)
    (pending : (s.bankLine l).switch.isSome = true) : (s.takeShadow l).switchOk := by
  intro b
  by_cases mine : lineBlock l = b
  · subst mine
    obtain ⟨waiting, -, reports⟩ := ok (lineBlock l)
    obtain ⟨scheduled, active⟩ := waiting (by rwa [State.pendingSwitch_line])
    rw [active, if_neg (by decide)] at reports
    refine State.blockSwitchOk_of_shadow ?_ ?_ scheduled ?_
    · rw [State.bankInUse_line, State.takeShadow, State.sendReport_bankLine, State.setBankLine_bankLine_same]
    · rw [State.pendingSwitch_line, State.takeShadow, State.sendReport_bankLine, State.setBankLine_bankLine_same]
    · rw [State.takeShadow, State.liveReports_sendReport, if_pos rfl]
      exact (Nat.add_right_comm _ _ _).trans (congrArg (· + 1) reports)
  · obtain ⟨switch, use⟩ := s.setBankLine_otherBlock { s.bankLine l with inUse := .shadow, switch := none } mine
    refine State.blockSwitchOk_congr (ok b) rfl switch use ?_
    rw [State.takeShadow, State.liveReports_sendReport, if_neg mine]
    rfl

theorem State.switchOk_mapStations {s : State} (ok : s.switchOk) (f : Station → StationState → StationState) :
    (s.mapStations f).switchOk := ok

theorem switchesAt_isSome {sw : Option SwitchPoint} {i : Index} (h : switchesAt sw i = true) : sw.isSome = true := by
  cases sw with
  | none => cases h
  | some p => rfl

theorem State.switchOk_bankInstant {s : State} (ok : s.switchOk) (n : Instant) : (s.bankInstant n).switchOk := by
  unfold State.bankInstant
  refine State.switchOk_setBankLine (State.switchOk_mapStations ?_ _) rfl rfl
  split_ifs with now
  · exact State.switchOk_takeShadow ok (switchesAt_isSome now)
  · exact ok

theorem State.switchOk_switchIdleLine {s : State} {l : Line} (ok : s.switchOk)
    (pending : (s.bankLine l).switch.isSome = true) : (s.switchIdleLine l).switchOk :=
  State.switchOk_takeShadow (State.switchOk_mapStations ok _) pending

theorem State.switchOk_bankLeft {s : State} (ok : s.switchOk) (l : Line) : (s.bankLeft l).switchOk := by
  unfold State.bankLeft
  have left := State.switchOk_setBankLine (l := l)
    (x := { s.bankLine l with live := false, leaves := (s.bankLine l).leaves - 1 })
    (State.switchOk_mapStations ok fun i x => if lineOf i = l then x.lineLeft else x) rfl rfl
  dsimp only
  split_ifs with pending
  · exact State.switchOk_switchIdleLine left pending
  · exact left

/-- R61: a line with no mark records the pending switch, or makes it at once. -/
theorem State.switchOk_scheduleLine {s : State} {l : Line} (p : SwitchPoint) (ok : s.switchOk)
    (scheduled : s.ctrl.scheduled.isSome = true) (active : (s.bankLine l).inUse = .active) :
    (s.scheduleLine l p).switchOk := by
  have recorded : (s.setBankLine l { s.bankLine l with switch := some p }).switchOk := by
    intro b
    by_cases mine : lineBlock l = b
    · subst mine
      have use : (s.setBankLine l { s.bankLine l with switch := some p }).bankInUse (lineBlock l) = .active := by
        rw [State.bankInUse_line, State.setBankLine_bankLine_same]
        exact active
      refine State.blockSwitchOk_of_active use (fun _ => scheduled) ?_
      obtain ⟨-, -, reports⟩ := ok (lineBlock l)
      rw [State.bankInUse_line, active, if_neg (by decide)] at reports
      exact reports
    · obtain ⟨switch, use⟩ := s.setBankLine_otherBlock { s.bankLine l with switch := some p } mine
      exact State.blockSwitchOk_congr (ok b) rfl switch use rfl
  unfold State.scheduleLine
  dsimp only
  split_ifs
  · exact recorded
  · refine State.switchOk_switchIdleLine recorded ?_
    rw [State.setBankLine_bankLine_same]
    rfl

theorem State.scheduleLine_bankLine_other (s : State) {l m : Line} (p : SwitchPoint) (other : m ≠ l) :
    (s.scheduleLine l p).bankLine m = s.bankLine m := by
  unfold State.scheduleLine
  dsimp only
  split_ifs
  · exact State.setBankLine_bankLine_other _ _ other
  · rw [State.switchIdleLine, State.takeShadow, State.sendReport_bankLine, State.setBankLine_bankLine_other _ _ other,
      State.mapStations_bankLine, State.setBankLine_bankLine_other _ _ other]

theorem State.switchOk_schedule {s : State} (p : SwitchPoint) (ok : s.switchOk) (free : s.ctrl.scheduled = none) :
    (s.schedule p).switchOk := by
  have idle (b : SwitchBlock) := (ok b).of_unscheduled free
  have active (l : Line) : (s.bankLine l).inUse = .active := s.bankInUse_line l ▸ (idle (lineBlock l)).1
  have start : (s.withScheduled p).switchOk := by
    intro b
    obtain ⟨use, -, reports⟩ := idle b
    refine State.blockSwitchOk_of_active (by cases b <;> exact use) (fun _ => rfl) ?_
    have clear : ((s.withScheduled p).ctrl.marks.get b).toNat = 0 := by cases b <;> rfl
    exact (congrArg _ clear).trans (Nat.eq_zero_of_add_eq_zero_right reports)
  rw [State.schedule_eq]
  refine State.switchOk_scheduleLine p (State.switchOk_scheduleLine p start rfl (active .a)) ?_ ?_
  · rw [State.scheduleLine_frame]
    rfl
  · rw [State.scheduleLine_bankLine_other _ _ (by decide)]
    exact active .b

theorem State.switchOk_setReports {s : State} {b : SwitchBlock} {r : SwitchReport} {rest : List SwitchReport}
    (ok : s.switchOk) (found : takeReportOf b s.ctrl.reports = some (r, rest))
    (idle : r.cancelled = true ∨ s.ctrl.scheduled = none) : (s.setReports rest).switchOk := by
  intro c
  obtain ⟨block, count⟩ := takeReportOf_spec found
  have counted : s.liveReports c = (s.setReports rest).liveReports c + (decide (r.block = c) && !r.cancelled).toNat :=
    count _
  rcases idle with cancelled | free
  · refine State.blockSwitchOk_congr (ok c) rfl (by cases c <;> rfl) (by cases c <;> rfl) ?_
    rw [counted, cancelled, Bool.not_true, Bool.and_false]
    rfl
  · obtain ⟨use, pending, reports⟩ := (ok c).of_unscheduled free
    have less : (s.setReports rest).liveReports c + ((s.setReports rest).ctrl.marks.get c).toNat = 0 := by
      have same : (s.setReports rest).ctrl.marks = s.ctrl.marks := rfl
      rw [same]
      omega
    exact State.blockSwitchOk_of_active (by cases c <;> exact use)
      (fun h => by rw [show (s.setReports rest).pendingSwitch c = none by cases c <;> exact pending] at h; cases h) less

theorem SwitchedMarks.get_mark (m : SwitchedMarks) (b c : SwitchBlock) :
    (m.mark b).get c = if b = c then true else m.get c := by cases b <;> cases c <;> rfl

/-- R158: a report of the pending switch sets the mark of its block. -/
theorem State.switchOk_marked {s : State} {b : SwitchBlock} {r : SwitchReport} {rest : List SwitchReport}
    (ok : s.switchOk) (found : takeReportOf b s.ctrl.reports = some (r, rest)) (standing : r.cancelled = false) :
    ((s.setReports rest).setMarks (s.ctrl.marks.mark r.block)).switchOk := by
  intro c
  obtain ⟨block, count⟩ := takeReportOf_spec found
  have counted : s.liveReports c = (s.setReports rest).liveReports c + (decide (r.block = c) && !r.cancelled).toNat :=
    count _
  refine State.blockSwitchOk_congr (ok c) rfl (by cases c <;> rfl) (by cases c <;> rfl) ?_
  obtain ⟨-, -, reports⟩ := ok c
  change (s.setReports rest).liveReports c + ((s.ctrl.marks.mark r.block).get c).toNat = _
  rw [SwitchedMarks.get_mark]
  rw [standing] at counted
  by_cases mine : r.block = c
  · have most : s.liveReports c + (s.ctrl.marks.get c).toNat ≤ 1 := by
      rw [reports]
      split_ifs <;> decide
    rw [if_pos mine]
    simp only [mine, decide_true, Bool.not_false, Bool.and_true, Bool.toNat_true] at counted ⊢
    omega
  · rw [if_neg mine]
    simp only [mine, decide_false, Bool.false_and, Bool.toNat_false] at counted
    omega

/-- R160: with every mark set, every block has switched and no report is on its way. -/
theorem State.switchOk.of_all_marks {s : State} (ok : s.switchOk) (all : s.ctrl.marks = ⟨true, true, true⟩)
    (b : SwitchBlock) : s.bankInUse b = .shadow ∧ s.pendingSwitch b = none ∧ s.liveReports b = 0 := by
  obtain ⟨pending, -, reports⟩ := ok b
  have mark : s.ctrl.marks.get b = true := by rw [all]; cases b <;> rfl
  rw [mark, Bool.toNat_true] at reports
  cases use : s.bankInUse b with
  | active =>
    rw [use, if_neg (by decide)] at reports
    omega
  | shadow =>
    rw [use, if_pos rfl] at reports
    refine ⟨rfl, ?_, by omega⟩
    cases point : s.pendingSwitch b with
    | none => rfl
    | some p =>
      have h := (pending (by rw [point]; rfl)).2
      rw [use] at h
      cases h

theorem BankMove.switchOk {s t : State} (move : BankMove s t) (ok : s.switchOk) : t.switchOk := by
  cases move with
  | leaves l n => exact State.switchOk_setBankLine ok rfl rfl
  | unreadRead => exact State.switchOk_mapStations ok _
  | restarted => exact State.switchOk_mapStations ok _
  | instant n => exact State.switchOk_bankInstant ok n
  | left l => exact State.switchOk_bankLeft ok l
  | stored => exact fun b => State.blockSwitchOk_congr (ok b) rfl (by cases b <;> rfl) (by cases b <;> rfl) rfl
  | scheduled p free => exact State.switchOk_schedule p ok free
  | withdrawn marks switched =>
    intro b
    obtain ⟨-, -, reports⟩ := ok b
    have active : s.bankInUse b = .active := by
      cases use : s.bankInUse b with
      | active => rfl
      | shadow => cases b <;> simp_all [State.someSwitched, State.bankInUse]
    rw [active, if_neg (by decide)] at reports
    exact State.blockSwitchOk_of_active (by cases b <;> exact active) (fun h => by cases b <;> cases h) reports
  | assocSwitched pending =>
    intro b
    by_cases mine : SwitchBlock.associator = b
    · subst mine
      obtain ⟨waiting, -, reports⟩ := ok .associator
      obtain ⟨scheduled, active⟩ := waiting pending
      rw [active, if_neg (by decide)] at reports
      refine State.blockSwitchOk_of_shadow rfl rfl scheduled ?_
      rw [State.assocSwitched, State.liveReports_sendReport, if_pos rfl]
      exact (Nat.add_right_comm _ _ _).trans (congrArg (· + 1) reports)
    · obtain ⟨switch, use⟩ := s.assocSwitched_otherBlock mine
      refine State.blockSwitchOk_congr (ok b) rfl switch use ?_
      rw [State.assocSwitched, State.liveReports_sendReport, if_neg mine]
      rfl
  | discarded b r rest found idle => exact State.switchOk_setReports ok found idle
  | marked b r rest found standing => exact State.switchOk_marked ok found standing
  | completed all =>
    intro b
    obtain ⟨-, pending, reports⟩ := ok.of_all_marks all b
    refine State.blockSwitchOk_of_active (by cases b <;> rfl) (fun h => ?_) ?_
    · rw [show s.exchanged.pendingSwitch b = none by cases b <;> exact pending] at h
      cases h
    · have clear : (s.exchanged.ctrl.marks.get b).toNat = 0 := by cases b <;> rfl
      exact (congrArg _ clear).trans reports

/-! ## The activity of one detector (R22, R46, R47) -/

/-- R46, R47 of a detector, under whether its station is enabled and what the line's state allows. -/
def StationState.activeOk (x : StationState) (enabled live test : Bool) : Prop :=
  (x.det = .off ↔ enabled = false) ∧
    (x.det ≠ .off → x.det ≠ .suspended → live = true ∧ test = false ∧ detectionAllowed x.confirmed = true)

theorem State.activityOk_iff (s : State) (j : Station) : s.activityOk j ↔
    (s.station j).activeOk (s.entryInUse j).enable (s.bankLine (lineOf j)).live (s.bankLine (lineOf j)).lastTest :=
  Iff.rfl

theorem conditionsHold_iff {live test : Bool} {confirmed : Option StatusCode} :
    conditionsHold live test confirmed = true ↔ live = true ∧ test = false ∧ detectionAllowed confirmed = true := by
  simp [conditionsHold, and_assoc]

theorem StationState.confirmed_of_received {x y : StationState} (h : x.received = y.received) :
    x.confirmed = y.confirmed := congrArg (·.1) h

theorem judgeActivity_off (ok : Bool) (x : StationState) : (judgeActivity ok x).det = .off ↔ x.det = .off := by
  unfold judgeActivity
  cases state : x.det <;> cases ok <;> simp [state, StationState.enterWarmup, StationState.enterSuspended]

/-- R47: a detector is at work after its conditions have been judged only where they hold. -/
theorem judgeActivity_working {ok : Bool} {x : StationState} (on : (judgeActivity ok x).det ≠ .off)
    (going : (judgeActivity ok x).det ≠ .suspended) : ok = true := by
  cases ok with
  | true => rfl
  | false =>
    unfold judgeActivity at on going
    cases state : x.det <;> simp_all [StationState.enterSuspended]

theorem leaveOn_working (h : Nat) (x : StationState) :
    (leaveOn h x).det ≠ .off ∧ (leaveOn h x).det ≠ .suspended := by
  unfold leaveOn
  split_ifs <;> exact ⟨nofun, nofun⟩

/-- R49 to R53: no transition takes a detector at work to OFF or SUSPENDED. -/
theorem transitionStep_working (inp : DetectorInput) {x : StationState} (on : x.det ≠ .off)
    (going : x.det ≠ .suspended) :
    (transitionStep inp x).after.det ≠ .off ∧ (transitionStep inp x).after.det ≠ .suspended := by
  cases state : x.det <;> simp only [transitionStep, state]
  case off => exact absurd state on
  case suspended => exact absurd state going
  case warmup => split_ifs <;> simp [state]
  case armed =>
    unfold onsetStep
    split_ifs <;> simp [state]
  case pending =>
    simp only [pendingStep]
    split_ifs <;> simp [state]
  case on =>
    simp only [onStep]
    split_ifs
    · exact leaveOn_working _ _
    · exact leaveOn_working _ _
    · simp [state]
  case hold =>
    unfold holdStep
    split_ifs <;> simp [state]

theorem ltaStep_det (t : Transition) (e b : Nat) (x : StationState) : (ltaStep t e b x).det = x.det := by
  cases t <;> rfl

theorem detectorWork_idle (inp : DetectorInput) {x : StationState} (idle : x.det = .off ∨ x.det = .suspended) :
    detectorWork inp x = ⟨x, .noRun, none⟩ := by rw [detectorWork, if_pos idle]

theorem detectorWork_working (inp : DetectorInput) {x : StationState} (on : x.det ≠ .off)
    (going : x.det ≠ .suspended) :
    (detectorWork inp x).after.det ≠ .off ∧ (detectorWork inp x).after.det ≠ .suspended := by
  rw [detectorWork, if_neg (not_or.mpr ⟨on, going⟩)]
  dsimp only
  rw [ltaStep_det]
  exact transitionStep_working inp on going

/-- R62: after the continuity comparison a detector is OFF exactly where its station is not enabled. -/
theorem continuity_off {old new : Bank} {j : Station} (ok : Bool) {x : StationState}
    (was : x.det = .off ↔ (old.station j).enable = false) :
    (continuity old new j ok x).det = .off ↔ (new.station j).enable = false := by
  unfold continuity
  cases enabled : (new.station j).enable with
  | false => simp [StationState.enterOff]
  | true =>
    rw [if_neg (by decide)]
    split_ifs with changed
    · simp [StationState.enterWarmup]
    · simp [StationState.enterSuspended]
    · rw [was, of_not_not (not_or.mp changed).1, enabled]
      simp

/-- Steps 1 and on of R37: the conditions of activity judged, and the detector's work. -/
theorem worked_activeOk (inp : DetectorInput) {y : StationState} {ok enabled test : Bool}
    (off : y.det = .off ↔ enabled = false) (judged : ok = conditionsHold true test y.confirmed) :
    (detectorWork inp (judgeActivity ok y)).after.activeOk enabled true test := by
  have same := StationState.confirmed_of_received
    ((detectorWork_received inp (judgeActivity ok y)).trans (judgeActivity_received ok y))
  have still := (judgeActivity_off ok y).trans off
  by_cases idle : (judgeActivity ok y).det = .off ∨ (judgeActivity ok y).det = .suspended
  · rw [detectorWork_idle _ idle]
    exact ⟨still, fun on going => absurd idle (not_or.mpr ⟨on, going⟩)⟩
  · obtain ⟨on, going⟩ := not_or.mp idle
    refine ⟨⟨fun h => absurd h (detectorWork_working _ on going).1, fun h => absurd (still.mpr h) on⟩, fun _ _ => ?_⟩
    rw [same]
    exact conditionsHold_iff.mp (judged.symm.trans (judgeActivity_working on going))

theorem receiveSlot_det (slot : Option SlotData) (x : StationState) : (receiveSlot slot x).det = x.det := by
  cases slot with
  | none => rfl
  | some d =>
    simp only [receiveSlot, confirmCode]
    split_ifs <;> rfl

/-- Steps 1, 2 and 4 of Table 2.7 at one station: `was` is the station's mark before the instant. -/
theorem stationFlow_activeOk (n : Instant) {old : Option Bank} {bank : Bank} {j : Station} {x : StationState}
    (was : x.det = .off ↔ ((old.getD bank).station j).enable = false) :
    (stationFlow n old bank j x).after.activeOk (bank.station j).enable true n.test := by
  rw [← receiveSlot_det (n.slot j) x] at was
  cases old with
  | none => exact worked_activeOk _ was rfl
  | some b =>
    refine worked_activeOk _ (continuity_off _ was) ?_
    rw [StationState.confirmed_of_received (continuity_received _ _ _ _ _)]

theorem StationState.lineLeft_activeOk {x : StationState} {enabled live test : Bool}
    (ok : x.activeOk enabled live test) (live' test' : Bool) : x.lineLeft.activeOk enabled live' test' := by
  obtain ⟨off, -⟩ := ok
  unfold StationState.activeOk StationState.lineLeft
  rw [← off]
  cases x.det <;> simp [StationState.enterSuspended]

theorem continuity_activeOk {old new : Bank} {j : Station} {x : StationState} {live test : Bool}
    (ok : x.activeOk (old.station j).enable live test) :
    (continuity old new j false x).activeOk (new.station j).enable live test := by
  refine ⟨continuity_off false ok.1, ?_⟩
  rw [StationState.confirmed_of_received (continuity_received old new j false x)]
  unfold continuity
  rw [if_neg Bool.false_ne_true]
  split_ifs
  · exact fun on => absurd rfl on
  · exact fun _ going => absurd rfl going
  · exact ok.2

theorem StationState.restarted_activeOk {x : StationState} {enabled live test : Bool}
    (ok : x.activeOk enabled live test) : x.restarted.activeOk enabled live test := by
  obtain ⟨off, working⟩ := ok
  have kept : x.restarted.confirmed = x.confirmed := by unfold StationState.restarted; split <;> rfl
  unfold StationState.activeOk
  rw [kept, ← off]
  unfold StationState.restarted
  cases state : x.det <;> simp_all [StationState.enterWarmup]

theorem StationState.engineReset_activeOk (x : StationState) (enabled live test : Bool) :
    (x.engineReset enabled live test).activeOk enabled live test := by
  unfold StationState.activeOk StationState.engineReset
  cases enabled with
  | false => simp
  | true =>
    by_cases holds : conditionsHold live test x.confirmed = true
    · simpa [holds] using conditionsHold_iff.mp holds
    · simp [holds]

/-! ## The activity of every detector -/

theorem State.entryInUse_congr {s t : State} {j : Station}
    (use : (t.bankLine (lineOf j)).inUse = (s.bankLine (lineOf j)).inUse) (active : t.ctrl.active = s.ctrl.active)
    (shadow : t.ctrl.shadow = s.ctrl.shadow) : t.entryInUse j = s.entryInUse j := by
  unfold State.entryInUse State.bankOf
  rw [use, active, shadow]

/-- A station that keeps its state, on a line that keeps its bank's entry and its live view. -/
theorem State.activityOk_congr {s t : State} {j : Station} (ok : s.activityOk j) (station : t.station j = s.station j)
    (entry : t.entryInUse j = s.entryInUse j)
    (live : (t.bankLine (lineOf j)).live = (s.bankLine (lineOf j)).live)
    (test : (t.bankLine (lineOf j)).lastTest = (s.bankLine (lineOf j)).lastTest) : t.activityOk j := by
  rw [State.activityOk_iff, station, entry, live, test]
  exact ok

theorem State.bankInstant_bankLine (s : State) (n : Instant) : (s.bankInstant n).bankLine n.line =
    ((if switchesAt (s.bankLine n.line).switch n.index then s.takeShadow n.line else s).bankLine n.line).took n := by
  rw [State.bankInstant, State.setBankLine_bankLine_same, State.mapStations_bankLine]

theorem State.bankInstant_bankLine_other (s : State) (n : Instant) {l : Line} (other : l ≠ n.line) :
    (s.bankInstant n).bankLine l = s.bankLine l := by
  rw [State.bankInstant, State.setBankLine_bankLine_other _ _ other, State.mapStations_bankLine]
  split_ifs
  · rw [State.takeShadow, State.sendReport_bankLine, State.setBankLine_bankLine_other _ _ other]
  · rfl

theorem State.bankInstant_bankOf (s : State) (n : Instant) (b : BankName) : (s.bankInstant n).bankOf b = s.bankOf b := by
  unfold State.bankInstant
  cases b <;> split_ifs <;> rfl

/-- R33, R61: after an instant the line uses the bank that the instant was computed with. -/
theorem State.bankInstant_entryInUse (s : State) (n : Instant) {j : Station} (mine : lineOf j = n.line) :
    (s.bankInstant n).entryInUse j = (s.instantBank n).station j := by
  unfold State.entryInUse State.instantBank
  rw [mine, State.bankInstant_bankOf, State.bankInstant_bankLine]
  split_ifs
  · rw [State.takeShadow, State.sendReport_bankLine, State.setBankLine_bankLine_same]
    rfl
  · rfl

theorem State.activityOk_bankInstant {s : State} (ok : ∀ j, s.activityOk j) (n : Instant) (j : Station) :
    (s.bankInstant n).activityOk j := by
  by_cases mine : lineOf j = n.line
  · have was : (s.station j).det = .off ↔ (((s.leftBank n).getD (s.instantBank n)).station j).enable = false := by
      have left : (s.leftBank n).getD (s.instantBank n) = s.bankOf (s.bankLine n.line).inUse := by
        unfold State.leftBank State.instantBank
        split_ifs <;> rfl
      rw [left, ← mine]
      exact (ok j).1
    rw [State.activityOk_iff, State.bankInstant_station, if_pos mine, State.bankInstant_entryInUse s n mine, mine,
      State.bankInstant_bankLine]
    exact stationFlow_activeOk n was
  · refine State.activityOk_congr (ok j) (by rw [State.bankInstant_station, if_neg mine]) ?_ ?_ ?_
    · unfold State.entryInUse
      rw [State.bankInstant_bankOf, State.bankInstant_bankLine_other _ _ mine]
    · rw [State.bankInstant_bankLine_other _ _ mine]
    · rw [State.bankInstant_bankLine_other _ _ mine]

/-- R61, R62: an idle line that switches compares each of its stations. -/
theorem State.activityOk_switchIdleLine {s : State} (ok : ∀ j, s.activityOk j) (l : Line) (j : Station) :
    (s.switchIdleLine l).activityOk j := by
  by_cases mine : lineOf j = l
  · have line : (s.switchIdleLine l).bankLine l = { s.bankLine l with inUse := .shadow, switch := none } := by
      rw [State.switchIdleLine, State.takeShadow, State.sendReport_bankLine, State.setBankLine_bankLine_same,
        State.mapStations_bankLine]
    have entry : (s.switchIdleLine l).entryInUse j = (s.bankOf .shadow).station j := by
      unfold State.entryInUse
      rw [mine, line]
      rfl
    rw [State.activityOk_iff, State.switchIdleLine_station, if_pos mine, entry, mine, line]
    refine continuity_activeOk ?_
    rw [← mine]
    exact ok j
  · have line : (s.switchIdleLine l).bankLine (lineOf j) = s.bankLine (lineOf j) := by
      rw [State.switchIdleLine, State.takeShadow, State.sendReport_bankLine, State.setBankLine_bankLine_other _ _ mine,
        State.mapStations_bankLine]
    refine State.activityOk_congr (ok j) (by rw [State.switchIdleLine_station, if_neg mine]) ?_ (by rw [line])
      (by rw [line])
    exact State.entryInUse_congr (by rw [line]) rfl rfl

/-- What the detector bank holds for a line is replaced, but for its bank and its live view. -/
theorem State.activityOk_setBankLine {s : State} {l : Line} {x : BankLine} (ok : ∀ j, s.activityOk j)
    (use : x.inUse = (s.bankLine l).inUse) (live : x.live = (s.bankLine l).live)
    (test : x.lastTest = (s.bankLine l).lastTest) (j : Station) : (s.setBankLine l x).activityOk j := by
  by_cases mine : lineOf j = l
  · refine State.activityOk_congr (ok j) rfl ?_ ?_ ?_
    · exact State.entryInUse_congr (by rw [mine, State.setBankLine_bankLine_same, use]) rfl rfl
    · rw [mine, State.setBankLine_bankLine_same, live]
    · rw [mine, State.setBankLine_bankLine_same, test]
  · have line := State.setBankLine_bankLine_other s x mine
    exact State.activityOk_congr (ok j) rfl (State.entryInUse_congr (by rw [line]) rfl rfl) (by rw [line])
      (by rw [line])

theorem State.activityOk_bankLeft {s : State} (ok : ∀ j, s.activityOk j) (l : Line) (j : Station) :
    (s.bankLeft l).activityOk j := by
  have left (i : Station) : ((s.mapStations fun i x => if lineOf i = l then x.lineLeft else x).setBankLine l
      { s.bankLine l with live := false, leaves := (s.bankLine l).leaves - 1 }).activityOk i := by
    by_cases mine : lineOf i = l
    · rw [State.activityOk_iff, State.setBankLine_station, State.mapStations_station, if_pos mine]
      refine StationState.lineLeft_activeOk (live := (s.bankLine (lineOf i)).live)
        (test := (s.bankLine (lineOf i)).lastTest) ?_ _ _
      unfold State.entryInUse
      rw [mine, State.setBankLine_bankLine_same, ← mine]
      exact ok i
    · have line := State.setBankLine_bankLine_other (s.mapStations fun i x => if lineOf i = l then x.lineLeft else x)
        { s.bankLine l with live := false, leaves := (s.bankLine l).leaves - 1 } mine
      refine State.activityOk_congr (ok i) ?_ ?_ (by rw [line]; rfl) (by rw [line]; rfl)
      · rw [State.setBankLine_station, State.mapStations_station, if_neg mine]
      · exact State.entryInUse_congr (by rw [line]; rfl) rfl rfl
  unfold State.bankLeft
  dsimp only
  split_ifs
  · exact State.activityOk_switchIdleLine left l j
  · exact left j

theorem State.activityOk_scheduleLine {s : State} (ok : ∀ j, s.activityOk j) (l : Line) (p : SwitchPoint)
    (j : Station) : (s.scheduleLine l p).activityOk j := by
  have recorded := State.activityOk_setBankLine (x := { s.bankLine l with switch := some p }) ok rfl rfl rfl
  unfold State.scheduleLine
  dsimp only
  split_ifs
  · exact recorded j
  · exact State.activityOk_switchIdleLine recorded l j

theorem State.bankInUse_lineOf {s : State} {name : BankName} (all : ∀ b, s.bankInUse b = name) (l : Line) :
    (s.bankLine l).inUse = name := s.bankInUse_line l ▸ all (lineBlock l)

theorem BankMove.activity {s t : State} (move : BankMove s t) (switch : s.switchOk) (ok : ∀ j, s.activityOk j)
    (j : Station) : t.activityOk j := by
  cases move with
  | leaves l n => exact State.activityOk_setBankLine (x := { s.bankLine l with leaves := n }) ok rfl rfl rfl j
  | unreadRead first last =>
    rw [State.activityOk_iff, State.removeUnread, State.mapStations_station]
    split_ifs <;> exact ok j
  | restarted first last =>
    rw [State.activityOk_iff, State.restartRange, State.mapStations_station]
    split_ifs
    · exact StationState.restarted_activeOk (ok j)
    · exact ok j
  | instant n => exact State.activityOk_bankInstant ok n j
  | left l => exact State.activityOk_bankLeft ok l j
  | stored b free =>
    refine State.activityOk_congr (ok j) rfl ?_ rfl rfl
    have active := State.bankInUse_lineOf (fun b => ((switch b).of_unscheduled free).1) (lineOf j)
    have same : ((s.setShadow b).bankLine (lineOf j)).inUse = .active := active
    unfold State.entryInUse
    rw [same, active]
    rfl
  | scheduled p free =>
    have passed (i : Station) : (s.withScheduled p).activityOk i :=
      State.activityOk_congr (ok i) rfl (State.entryInUse_congr rfl rfl rfl) rfl rfl
    exact State.activityOk_scheduleLine (State.activityOk_scheduleLine passed .a p) .b p j
  | withdrawn =>
    exact State.activityOk_congr (ok j) rfl (State.entryInUse_congr (by cases lineOf j <;> rfl) rfl rfl)
      (by cases lineOf j <;> rfl) (by cases lineOf j <;> rfl)
  | completed all =>
    have shadow := State.bankInUse_lineOf (fun b => (switch.of_all_marks all b).1) (lineOf j)
    refine State.activityOk_congr (ok j) rfl ?_ (by cases lineOf j <;> rfl) (by cases lineOf j <;> rfl)
    unfold State.entryInUse
    rw [show (s.exchanged.bankLine (lineOf j)).inUse = .active by cases lineOf j <;> rfl, shadow]
    rfl
  | _ => exact State.activityOk_congr (ok j) rfl (State.entryInUse_congr rfl rfl rfl) rfl rfl

/-! ## Resets -/

theorem State.engineReset_detectorsOk (s : State) : s.engineReset.detectorsOk := by
  refine ⟨fun b => ?_, fun j => ?_⟩
  · refine State.blockSwitchOk_of_active (by cases b <;> rfl) (fun h => by cases b <;> cases h) ?_
    have mark : s.engineReset.ctrl.marks.get b = false := by cases b <;> rfl
    have none : s.engineReset.liveReports b = 0 := by
      simp [State.liveReports, State.engineReset, List.countP_map, List.countP_eq_zero]
    rw [mark, none]
    rfl
  · have use : (s.engineReset.bankLine (lineOf j)).inUse = .active := by cases lineOf j <;> rfl
    have live : (s.engineReset.bankLine (lineOf j)).live = (s.bankLine (lineOf j)).live := by cases lineOf j <;> rfl
    have test : (s.engineReset.bankLine (lineOf j)).lastTest = (s.bankLine (lineOf j)).lastTest := by
      cases lineOf j <;> rfl
    rw [State.activityOk_iff, State.engineReset_station, State.entryInUse, use, live, test]
    exact StationState.engineReset_activeOk _ _ _ _

/-- A state with the power-on values in its detector bank, associator and controller. -/
theorem State.detectorsOk_of_reset {s : State} (bank : s.bank = DetectorBank.reset) (assoc : s.assoc = Associator.reset)
    (active : s.ctrl.active = Bank.default) (reports : s.ctrl.reports = []) (marks : s.ctrl.marks = ⟨false, false, false⟩) : s.detectorsOk := by
  have line (l : Line) : s.bankLine l = BankLine.reset := by rw [State.bankLine, bank]; cases l <;> rfl
  have use (b : SwitchBlock) : s.bankInUse b = .active := by
    cases b
    · exact congrArg BankLine.inUse (line .a)
    · exact congrArg BankLine.inUse (line .b)
    · exact congrArg Associator.inUse assoc
  have pending (b : SwitchBlock) : s.pendingSwitch b = none := by
    cases b
    · exact congrArg BankLine.switch (line .a)
    · exact congrArg BankLine.switch (line .b)
    · exact congrArg Associator.switch assoc
  refine ⟨fun b => State.blockSwitchOk_of_active (use b) (fun h => by rw [pending b] at h; cases h) ?_, fun j => ?_⟩
  · rw [State.liveReports, reports, marks]
    cases b <;> rfl
  · have station : s.station j = StationState.reset := (State.station_of_bank (s := State.reset) bank j).trans
      (State.reset_station j)
    have entry : (s.entryInUse j).enable = false := by
      rw [State.entryInUse, line]
      show (s.ctrl.active.station j).enable = false
      rw [active]
      simp [Bank.station, Bank.default, StationEntryCfg.default]
    rw [State.activityOk_iff, station, entry]
    exact ⟨⟨fun _ => rfl, fun _ => rfl⟩, fun on => absurd rfl on⟩

theorem Move.detectors {i : Instr} {s0 s t : State} (move : Move i s0 s t) (ok : s.detectorsOk) : t.detectorsOk := by
  cases move with
  | bank _ move => exact ⟨move.switchOk ok.1, move.activity ok.1 ok.2⟩
  | assoc _ move =>
    rw [move.frame]
    exact ok
  | capture _ move =>
    rw [move.frame]
    exact ok
  | engineReset => exact s.engineReset_detectorsOk
  | fullReset => exact State.detectorsOk_of_reset rfl rfl rfl rfl rfl
  | powerOn => exact State.detectorsOk_of_reset rfl rfl rfl rfl rfl
  | _ => exact ok

theorem DetState.available_iff (d : DetState) :
    d.available = true ↔ d = .armed ∨ d = .pending ∨ d = .on ∨ d = .hold := by
  cases d <;> decide

/-- Settles O28: each event keeps the switch state of the blocks, and with it which bank decides that a detector is
OFF; and each leaves a detector at work only where the conditions of activity hold. -/
theorem detectorsActiveOnlyWhenAllowed : Obligations.DetectorsActiveOnlyWhenAllowed :=
  ⟨fun _ _ ok next => step_keeps (P := State.detectorsOk) (fun _ ok => ok) (fun _ _ _ _ _ move ok => move.detectors ok)
    ok next, fun s i => (s.station i).det.available_iff⟩

end Sys2Proof.Machine
end

section
/-! PROOFS. The event table: event numbers, declaration orders and record states (O49). -/

namespace Sys2Proof.Machine

/-! ## The first unused event number (R105) -/

/-- R105: `k` numbers after `n`, with 65535 followed by 1. -/
def numberAfter (n k : Nat) : Nat := (n - 1 + k) % 65535 + 1

theorem numberAfter_range (n k : Nat) : 1 ≤ numberAfter n k ∧ numberAfter n k ≤ 65535 := by
  unfold numberAfter
  omega

theorem numberAfter_zero {n : Nat} (low : 1 ≤ n) (high : n ≤ 65535) : numberAfter n 0 = n := by
  unfold numberAfter
  omega

theorem numberAfter_succ {n : Nat} (low : 1 ≤ n) (high : n ≤ 65535) (k : Nat) :
    numberAfter (if n = 65535 then 1 else n + 1) k = numberAfter n (k + 1) := by
  unfold numberAfter
  split_ifs <;> omega

/-- R105: the search passes over held numbers only, and ends at one that is not held unless its fuel ends first. -/
theorem State.unusedNumber_walk (s : State) : ∀ (fuel n : Nat), 1 ≤ n → n ≤ 65535 → ∃ k ≤ fuel,
    s.unusedNumber fuel n = numberAfter n k ∧ (∀ j < k, (s.findRecord (numberAfter n j)).isSome = true) ∧
      (k < fuel → s.findRecord (numberAfter n k) = none)
  | 0, n, low, high => ⟨0, le_rfl, (numberAfter_zero low high).symm, nofun, nofun⟩
  | fuel + 1, n, low, high => by
    unfold State.unusedNumber
    split_ifs with held next
    · obtain ⟨k, short, same, passed, free⟩ := State.unusedNumber_walk s fuel 1 le_rfl (by decide)
      have shift (j : Nat) : numberAfter 1 j = numberAfter n (j + 1) := by
        rw [← numberAfter_succ low high, if_pos next]
      refine ⟨k + 1, Nat.succ_le_succ short, same.trans (shift k), fun j less => ?_, fun less => ?_⟩
      · cases j with
        | zero => rwa [numberAfter_zero low high]
        | succ j => exact shift j ▸ passed j (Nat.lt_of_succ_lt_succ less)
      · exact shift k ▸ free (Nat.lt_of_succ_lt_succ less)
    · obtain ⟨k, short, same, passed, free⟩ := State.unusedNumber_walk s fuel (n + 1) (Nat.le_add_left 1 n) (by omega)
      have shift (j : Nat) : numberAfter (n + 1) j = numberAfter n (j + 1) := by
        rw [← numberAfter_succ low high, if_neg next]
      refine ⟨k + 1, Nat.succ_le_succ short, same.trans (shift k), fun j less => ?_, fun less => ?_⟩
      · cases j with
        | zero => rwa [numberAfter_zero low high]
        | succ j => exact shift j ▸ passed j (Nat.lt_of_succ_lt_succ less)
      · exact shift k ▸ free (Nat.lt_of_succ_lt_succ less)
    · refine ⟨0, Nat.zero_le _, (numberAfter_zero low high).symm, nofun, fun _ => ?_⟩
      rw [numberAfter_zero low high]
      simpa using held

theorem numberAfter_inj {n j k : Nat} (hj : j < 65535) (hk : k < 65535) (same : numberAfter n j = numberAfter n k) :
    j = k := by
  unfold numberAfter at same
  omega

/-- 32 numbers in a row cannot all be held while a place is FREE. -/
theorem State.not_all_held {s : State} {p : Fin 32} (free : s.record p = none) (n : Nat) :
    ¬ ∀ j < 32, (s.findRecord (numberAfter n j)).isSome = true := by
  intro held
  have named (j : Fin 32) : ∃ q r, s.record q = some r ∧ r.number = numberAfter n j := by
    obtain ⟨q, found⟩ := Option.isSome_iff_exists.mp (held j j.isLt)
    exact ⟨q, State.record_of_findRecord found⟩
  choose place record heldAt number using named
  have injective : Function.Injective place := by
    intro j k same
    have records : record j = record k := Option.some.inj ((heldAt j).symm.trans (same ▸ heldAt k))
    exact Fin.ext (numberAfter_inj (by omega) (by omega) ((number j).symm.trans (records ▸ number k)))
  obtain ⟨j, here⟩ := (Finite.injective_iff_surjective.mp injective) p
  have full := heldAt j
  rw [here, free] at full
  cases full

/-- R105: with a FREE place the search finds the first number that no record holds. -/
theorem State.unusedNumber_spec {s : State} {p : Fin 32} (free : s.record p = none) (low : 1 ≤ s.capture.nextNumber)
    (high : s.capture.nextNumber ≤ 65535) : s.firstUnused (s.unusedNumber 32 s.capture.nextNumber) := by
  obtain ⟨k, short, same, passed, ends⟩ := s.unusedNumber_walk 32 s.capture.nextNumber low high
  refine ⟨k, short, same, fun j less => ?_, ?_⟩
  · obtain ⟨q, found⟩ := Option.isSome_iff_exists.mp (passed j less)
    exact ⟨q, State.record_of_findRecord found⟩
  · have before : k < 32 := by
      refine lt_of_le_of_ne short fun full => State.not_all_held free s.capture.nextNumber ?_
      rwa [full] at passed
    rw [same]
    exact (s.findRecord_eq_none_iff _).mp (ends before)

/-! ## Numbers and orders (R103, R105) -/

/-- What identifies a record: its event number and its declaration order. -/
def Record.ident (r : Record) : Nat × Nat := (r.number, r.order)

/-- The records of every place are the same but for what they hold. -/
def State.sameIdents (s t : State) : Prop :=
  (∀ q, (t.record q).map Record.ident = (s.record q).map Record.ident) ∧
    t.capture.nextNumber = s.capture.nextNumber

theorem State.sameIdents_of_set {s t : State} {p : Fin 32} {r x : Record} (held : s.record p = some r)
    (set : ∀ q, t.record q = if q = p then some x else s.record q) (ident : x.ident = r.ident)
    (next : t.capture.nextNumber = s.capture.nextNumber) : s.sameIdents t := by
  refine ⟨fun q => ?_, next⟩
  rw [set]
  split_ifs with same
  · rw [same, held, Option.map_some, Option.map_some, ident]
  · rfl

theorem State.sameIdents.record {s t : State} (same : s.sameIdents t) {q : Fin 32} {x : Record}
    (held : t.record q = some x) : ∃ r, s.record q = some r ∧ x.number = r.number ∧ x.order = r.order := by
  have ident := same.1 q
  rw [held, Option.map_some] at ident
  obtain ⟨r, heldr, eq⟩ := Option.map_eq_some_iff.mp ident.symm
  exact ⟨r, heldr, (Prod.ext_iff.mp eq).1.symm, (Prod.ext_iff.mp eq).2.symm⟩

theorem State.sameIdents.recordCount {s t : State} (same : s.sameIdents t) : t.recordCount = s.recordCount := by
  have some (q : Fin 32) : (t.record q).isSome = (s.record q).isSome := by
    rw [← Option.isSome_map (f := Record.ident), same.1 q, Option.isSome_map]
  simp only [State.recordCount, some]

/-- A record created counts one more. -/
theorem State.recordCount_of_created {s t : State} {p : Fin 32} {x : Record} (free : s.record p = none)
    (set : ∀ q, t.record q = if q = p then some x else s.record q) : t.recordCount = s.recordCount + 1 := by
  rw [State.recordCount, State.recordCount, countP_of_differ (k := p) (f := fun q => (t.record q).isSome)
    (g := fun q => (s.record q).isSome), List.count_eq_one_of_mem allPlaces_nodup (mem_allPlaces p)]
  · rw [set, if_pos rfl]
    rfl
  · rw [free]
    rfl
  · intro q other
    rw [set, if_neg other]

/-- A record freed counts one less. -/
theorem State.recordCount_of_freed {s : State} {p : Fin 32} {r : Record} (held : s.record p = some r) :
    s.recordCount = (s.freeRecord p).recordCount + 1 := by
  rw [State.recordCount, State.recordCount, countP_of_differ (k := p) (f := fun q => (s.record q).isSome)
    (g := fun q => ((s.freeRecord p).record q).isSome), List.count_eq_one_of_mem allPlaces_nodup (mem_allPlaces p)]
  · rw [held]
    rfl
  · rw [State.freeRecord_record _ _ _ _ held, if_pos rfl]
    rfl
  · intro q other
    rw [State.freeRecord_record _ _ _ _ held, if_neg other, Option.isSome_map]

/-- What an event of the capture engine or the readout unit does to the identities of the records. -/
theorem CaptureMove.idents {s0 s t : State} (move : CaptureMove s0 s t) : s.sameIdents t ∨
    (∃ p r, s.record p = some r ∧ (s.freeRecord p).sameIdents t) ∨ ∃ p m, s.record p = none ∧ t = s.createRecord p m := by
  cases move with
  | entry p r c st f state held =>
    exact .inl (State.sameIdents_of_set held (fun q => State.entryChanged_record _ _ _ _ _ _ _) rfl rfl)
  | freed p r held => exact .inr (.inl ⟨p, r, held, fun _ => rfl, rfl⟩)
  | released p r held => exact .inr (.inl ⟨p, r, held, fun _ => rfl, rfl⟩)
  | created p m free => exact .inr (.inr ⟨p, m, free, rfl⟩)
  | placed p r m stations held =>
    exact .inl (State.sameIdents_of_set held (fun q => State.reserved_record _ _ _ _ _ _) rfl rfl)
  | absent p r held => exact .inl (State.sameIdents_of_set held (fun q => State.setRecord_record _ _ _ _) rfl rfl)
  | unmapped k x => exact .inl ⟨fun _ => rfl, rfl⟩
  | closed p r m entry held =>
    exact .inl (State.sameIdents_of_set held (fun q => State.setRecord_record (s.setMap _ _) _ _ _) rfl rfl)
  | readout x => exact .inl ⟨fun _ => rfl, rfl⟩
  | started p r sel held =>
    exact .inl (State.sameIdents_of_set held (fun q => State.startReadout_record _ _ _ _ _) rfl rfl)
  | ended =>
    refine .inl ⟨fun q => ?_, ?_⟩
    · rw [State.endReadout_record]
      split_ifs
      · rw [Option.map_map]
        rfl
      · rfl
    · unfold State.endReadout
      dsimp only
      split
      · rfl
      · split <;> rfl

theorem State.sameIdents.numbersOk {s t : State} (same : s.sameIdents t) (ok : s.numbersOk) : t.numbersOk := by
  obtain ⟨low, high, range, distinct⟩ := ok
  rw [State.numbersOk, same.2]
  refine ⟨low, high, fun p r held => ?_, fun p q r r' held held' eq => ?_⟩
  · obtain ⟨x, heldx, number, -⟩ := same.record held
    exact number ▸ range p x heldx
  · obtain ⟨x, heldx, number, -⟩ := same.record held
    obtain ⟨x', heldx', number', -⟩ := same.record held'
    exact distinct p q x x' heldx heldx' (by rw [← number, ← number', eq])

theorem State.sameIdents.ordersOk {s t : State} (same : s.sameIdents t) (ok : s.ordersOk) : t.ordersOk := by
  obtain ⟨below, distinct⟩ := ok
  rw [State.ordersOk, same.recordCount]
  refine ⟨fun p r held => ?_, fun p q r r' held held' eq => ?_⟩
  · obtain ⟨x, heldx, -, order⟩ := same.record held
    exact order ▸ below p x heldx
  · obtain ⟨x, heldx, -, order⟩ := same.record held
    obtain ⟨x', heldx', -, order'⟩ := same.record held'
    exact distinct p q x x' heldx heldx' (by rw [← order, ← order', eq])

/-- R103, R107: the record of a place after another has been freed. -/
theorem State.record_of_freed {s : State} {p q : Fin 32} {r x : Record} (held : s.record p = some r)
    (heldx : (s.freeRecord p).record q = some x) : q ≠ p ∧ ∃ y, s.record q = some y ∧
      x = { y with order := if r.order < y.order then y.order - 1 else y.order } := by
  rw [State.freeRecord_record _ _ _ _ held] at heldx
  split_ifs at heldx with same
  obtain ⟨y, heldy, rfl⟩ := Option.map_eq_some_iff.mp heldx
  refine ⟨same, y, heldy, ?_⟩
  split_ifs <;> rfl

theorem State.freeRecord_numbersOk {s : State} {p : Fin 32} {r : Record} (held : s.record p = some r)
    (ok : s.numbersOk) : (s.freeRecord p).numbersOk := by
  obtain ⟨low, high, range, distinct⟩ := ok
  rw [State.numbersOk, State.freeRecord_nextNumber]
  refine ⟨low, high, fun q x heldx => ?_, fun q q' x x' heldx heldx' eq => ?_⟩
  · obtain ⟨-, y, heldy, rfl⟩ := State.record_of_freed held heldx
    exact range q y heldy
  · obtain ⟨-, y, heldy, rfl⟩ := State.record_of_freed held heldx
    obtain ⟨-, y', heldy', rfl⟩ := State.record_of_freed held heldx'
    exact distinct q q' y y' heldy heldy' eq

/-- R103: the orders above that of the freed record close the gap. -/
theorem State.freeRecord_ordersOk {s : State} {p : Fin 32} {r : Record} (held : s.record p = some r)
    (ok : s.ordersOk) : (s.freeRecord p).ordersOk := by
  obtain ⟨below, distinct⟩ := ok
  have count := State.recordCount_of_freed held
  have other {q : Fin 32} {y : Record} (ne : q ≠ p) (heldy : s.record q = some y) : y.order ≠ r.order :=
    fun same => ne (distinct q p y r heldy held same)
  refine ⟨fun q x heldx => ?_, fun q q' x x' heldx heldx' eq => ?_⟩
  · obtain ⟨ne, y, heldy, rfl⟩ := State.record_of_freed held heldx
    have low := below q y heldy
    have top := below p r held
    have apart := other ne heldy
    dsimp only
    split_ifs <;> omega
  · obtain ⟨ne, y, heldy, rfl⟩ := State.record_of_freed held heldx
    obtain ⟨ne', y', heldy', rfl⟩ := State.record_of_freed held heldx'
    have apart := other ne heldy
    have apart' := other ne' heldy'
    refine distinct q q' y y' heldy heldy' ?_
    dsimp only at eq
    split_ifs at eq <;> omega

theorem State.createRecord_numbersOk {s : State} {p : Fin 32} (m : DeclareMsg) (free : s.record p = none)
    (ok : s.numbersOk) : (s.createRecord p m).numbersOk := by
  obtain ⟨low, high, range, distinct⟩ := ok
  obtain ⟨k, -, same, -, unused⟩ := State.unusedNumber_spec free low high
  have bounds : 1 ≤ s.unusedNumber 32 s.capture.nextNumber ∧ s.unusedNumber 32 s.capture.nextNumber ≤ 65535 :=
    same ▸ numberAfter_range s.capture.nextNumber k
  have next : (s.createRecord p m).capture.nextNumber =
      if s.unusedNumber 32 s.capture.nextNumber = 65535 then 1 else s.unusedNumber 32 s.capture.nextNumber + 1 := rfl
  refine ⟨?_, ?_, fun q x held => ?_, fun q q' x x' held held' eq => ?_⟩
  · rw [next]
    split_ifs <;> omega
  · rw [next]
    split_ifs <;> omega
  · rw [State.createRecord_record] at held
    split_ifs at held
    · cases held
      exact bounds
    · exact range q x held
  · rw [State.createRecord_record] at held held'
    split_ifs at held held' with here here' here'
    · exact here.trans here'.symm
    · cases held
      exact absurd eq.symm (unused q' x' held')
    · cases held'
      exact absurd eq (unused q x held)
    · exact distinct q q' x x' held held' eq

theorem State.createRecord_ordersOk {s : State} {p : Fin 32} (m : DeclareMsg) (free : s.record p = none)
    (ok : s.ordersOk) : (s.createRecord p m).ordersOk := by
  obtain ⟨below, distinct⟩ := ok
  have count := State.recordCount_of_created free (fun q => s.createRecord_record p q m)
  rw [State.ordersOk, count]
  refine ⟨fun q x held => ?_, fun q q' x x' held held' eq => ?_⟩
  · rw [State.createRecord_record] at held
    split_ifs at held
    · cases held
      exact Nat.lt_succ_self _
    · exact Nat.lt_succ_of_lt (below q x held)
  · rw [State.createRecord_record] at held held'
    split_ifs at held held' with here here' here'
    · exact here.trans here'.symm
    · cases held
      exact absurd eq.symm (Nat.ne_of_lt (below q' x' held'))
    · cases held'
      exact absurd eq (Nat.ne_of_lt (below q x held))
    · exact distinct q q' x x' held held' eq

theorem CaptureMove.numbersOk {s0 s t : State} (move : CaptureMove s0 s t) (ok : s.numbersOk) : t.numbersOk := by
  rcases move.idents with same | ⟨p, r, held, same⟩ | ⟨p, m, free, rfl⟩
  · exact same.numbersOk ok
  · exact same.numbersOk (State.freeRecord_numbersOk held ok)
  · exact State.createRecord_numbersOk m free ok

theorem CaptureMove.ordersOk {s0 s t : State} (move : CaptureMove s0 s t) (ok : s.ordersOk) : t.ordersOk := by
  rcases move.idents with same | ⟨p, r, held, same⟩ | ⟨p, m, free, rfl⟩
  · exact same.ordersOk ok
  · exact same.ordersOk (State.freeRecord_ordersOk held ok)
  · exact State.createRecord_ordersOk m free ok

/-! ## Record states (R104, R120, R123) -/

/-- A record replaced that stays ACTIVE if it was. -/
theorem State.mapOk_of_set {s t : State} {p : Fin 32} {r x : Record} (ok : s.mapOk) (held : s.record p = some r)
    (set : ∀ q, t.record q = if q = p then some x else s.record q) (map : t.capture.map = s.capture.map)
    (active : r.state = .active → x.state = .active) : t.mapOk := by
  obtain ⟨names, once⟩ := ok
  rw [State.mapOk, map]
  refine ⟨fun k q entry => ?_, once⟩
  obtain ⟨y, heldy, state⟩ := names k q entry
  rw [set]
  split_ifs with same
  · rw [same, held] at heldy
    cases heldy
    exact ⟨x, rfl, active state⟩
  · exact ⟨y, heldy, state⟩

/-- A record replaced that is READING exactly if it was. -/
theorem State.readingOk_of_set {s t : State} {p : Fin 32} {r x : Record} (ok : s.readingOk) (held : s.record p = some r)
    (set : ∀ q, t.record q = if q = p then some x else s.record q) (readout : t.readout = s.readout)
    (reading : x.state = .reading ↔ r.state = .reading) : t.readingOk := by
  obtain ⟨reads, named⟩ := ok
  rw [State.readingOk, readout]
  refine ⟨fun q y heldy state => ?_, fun q record => ?_⟩
  · rw [set] at heldy
    split_ifs at heldy with same
    · cases heldy
      exact same ▸ reads p r held (reading.mp state)
    · exact reads q y heldy state
  · obtain ⟨streaming, y, heldy, state⟩ := named q record
    refine ⟨streaming, ?_⟩
    rw [set]
    split_ifs with same
    · rw [same, held] at heldy
      cases heldy
      exact ⟨x, rfl, reading.mpr state⟩
    · exact ⟨y, heldy, state⟩

theorem State.readyComplete_of_set {s t : State} {p : Fin 32} {x : Record} (ok : s.readyComplete)
    (set : ∀ q, t.record q = if q = p then some x else s.record q)
    (complete : x.state = .ready ∨ x.state = .reading → x.allComplete = true) : t.readyComplete := by
  intro q y held state
  rw [set] at held
  split_ifs at held
  · cases held
    exact complete state
  · exact ok q y held state

/-- A record replaced whose state, for the map, the readout and R120, is as good as it was. -/
theorem State.recordStatesOk_of_set {s t : State} {p : Fin 32} {r x : Record} (ok : s.recordStatesOk)
    (held : s.record p = some r) (set : ∀ q, t.record q = if q = p then some x else s.record q)
    (map : t.capture.map = s.capture.map) (readout : t.readout = s.readout)
    (active : r.state = .active → x.state = .active) (reading : x.state = .reading ↔ r.state = .reading)
    (complete : x.state = .ready ∨ x.state = .reading → x.allComplete = true) : t.recordStatesOk := by
  obtain ⟨mapOk, readingOk, ready⟩ := ok
  exact ⟨State.mapOk_of_set mapOk held set map active, State.readingOk_of_set readingOk held set readout reading,
    State.readyComplete_of_set ready set complete⟩

/-- An entry that is complete stays complete through any event. -/
theorem EntryMove.complete {c : CaptureSection} {e e' : StationEntry} (move : EntryMove c e e')
    (complete : e.complete = true) : e'.complete = true := by
  obtain ⟨bulk, direct⟩ := Bool.and_eq_true_iff.mp complete
  cases move with
  | bulk hit going => rw [bulk] at going; cases going
  | direct n test mark going => rw [direct] at going; cases going
  | lost =>
    rw [lineLostStep, if_pos direct]
    exact complete

theorem CaptureSection.changeEntry_complete {r : Record} {c : CaptureSection} {st : Station}
    {f : StationEntry → StationEntry} (capture : r.capture = some c) (all : r.allComplete = true)
    (move : ∀ e, r.entry st = some e → EntryMove c e (f e)) :
    (c.changeEntry st f c.entries).entries.all StationEntry.complete = true := by
  rw [Record.allComplete, Record.entries_of_some capture] at all
  rw [List.all_eq_true] at all ⊢
  intro e' mem
  rcases CaptureSection.mem_changeEntry mem with old | ⟨e, chain, found, rfl⟩
  · exact all e' old
  · exact (move e ((Record.entry_of_capture capture st).trans found)).complete
      (all e (List.mem_of_find?_eq_some found))

/-- R104: a record that is not ACTIVE is freed without a map entry of its own. -/
theorem State.freeRecord_mapOk {s : State} {p : Fin 32} {r : Record} (held : s.record p = some r)
    (idle : r.state ≠ .active) (ok : s.mapOk) : (s.freeRecord p).mapOk := by
  obtain ⟨names, once⟩ := ok
  rw [State.mapOk, State.freeRecord_map]
  refine ⟨fun k q entry => ?_, once⟩
  obtain ⟨y, heldy, state⟩ := names k q entry
  rw [State.freeRecord_record _ _ _ _ held, heldy]
  split_ifs with same
  · rw [same, held] at heldy
    cases heldy
    exact absurd state idle
  · refine ⟨_, rfl, ?_⟩
    dsimp only
    split_ifs <;> exact state

theorem State.freeRecord_readyComplete {s : State} {p : Fin 32} {r : Record} (held : s.record p = some r)
    (ok : s.readyComplete) : (s.freeRecord p).readyComplete := by
  intro q x heldx state
  obtain ⟨-, y, heldy, rfl⟩ := State.record_of_freed held heldx
  exact ok q y heldy state

theorem State.freeRecord_readout (s : State) (p : Fin 32) : (s.freeRecord p).readout = s.readout := by
  rw [State.freeRecord_frame]

theorem State.freeRecord_readingOk {s : State} {p : Fin 32} {r : Record} (held : s.record p = some r)
    (idle : r.state ≠ .reading) (ok : s.readingOk) : (s.freeRecord p).readingOk := by
  obtain ⟨reads, named⟩ := ok
  rw [State.readingOk, State.freeRecord_readout]
  refine ⟨fun q x heldx state => ?_, fun q record => ?_⟩
  · obtain ⟨-, y, heldy, rfl⟩ := State.record_of_freed held heldx
    exact reads q y heldy state
  · obtain ⟨streaming, y, heldy, state⟩ := named q record
    refine ⟨streaming, ?_⟩
    rw [State.freeRecord_record _ _ _ _ held, heldy]
    split_ifs with same
    · rw [same, held] at heldy
      cases heldy
      exact absurd state idle
    · refine ⟨_, rfl, ?_⟩
      dsimp only
      split_ifs <;> exact state

/-- R133: the record that is read is freed, and the readout has no record then. -/
theorem State.released_readingOk {s : State} {p : Fin 32} {r : Record} (held : s.record p = some r)
    (reading : r.state = .reading) (ok : s.readingOk) :
    ((s.freeRecord p).setReadout { s.readout with record := none }).readingOk := by
  obtain ⟨reads, -⟩ := ok
  refine ⟨fun q x heldx state => ?_, fun q record => by cases record⟩
  rw [State.setReadout_record] at heldx
  obtain ⟨other, y, heldy, rfl⟩ := State.record_of_freed held heldx
  have here := (reads q y heldy state).2
  rw [(reads p r held reading).2] at here
  exact absurd (Option.some.inj here).symm other

theorem mapEntry_set (map : Vector MapEntry 16) (k j : Fin 16) (x : MapEntry) :
    (map.set k x)[j] = if j = k then x else map[j] := by
  rw [Vector.get_set_fin]
  simp only [Fin.ext_iff]

theorem State.createRecord_recordStatesOk {s : State} {p : Fin 32} (m : DeclareMsg) (free : s.record p = none)
    (ok : s.recordStatesOk) : (s.createRecord p m).recordStatesOk := by
  obtain ⟨⟨names, once⟩, ⟨reads, named⟩, ready⟩ := ok
  have set (q : Fin 32) := s.createRecord_record p q m
  have map (k : Fin 16) : (s.createRecord p m).capture.map[k] =
      if k = m.slot then .record p else s.capture.map[k] := mapEntry_set s.capture.map m.slot k (.record p)
  have unnamed (k : Fin 16) : s.capture.map[k] ≠ .record p := by
    intro entry
    obtain ⟨r, held, -⟩ := names k p entry
    rw [free] at held
    cases held
  refine ⟨⟨fun k q entry => ?_, fun j k q hj hk => ?_⟩, ⟨fun q x held state => ?_, fun q record => ?_⟩,
    fun q x held state => ?_⟩
  · rw [map] at entry
    rw [set]
    split_ifs at entry
    · cases entry
      exact ⟨s.newRecord m, if_pos rfl, rfl⟩
    · obtain ⟨r, held, state⟩ := names k q entry
      refine ⟨r, ?_, state⟩
      rwa [if_neg fun same : q = p => unnamed k (same ▸ entry)]
  · rw [map] at hj hk
    split_ifs at hj hk with here here' here'
    · exact here.trans here'.symm
    · cases hj
      exact absurd hk (unnamed k)
    · cases hk
      exact absurd hj (unnamed j)
    · exact once j k q hj hk
  · rw [set] at held
    split_ifs at held
    · cases held
      cases state
    · exact reads q x held state
  · obtain ⟨streaming, r, held, state⟩ := named q record
    refine ⟨streaming, r, ?_, state⟩
    rw [set, if_neg fun same => by rw [same, free] at held; cases held]
    exact held
  · rw [set] at held
    split_ifs at held
    · cases held
      rcases state with state | state <;> cases state
    · exact ready q x held state

/-- R119: the record of a CLOSE leaves ACTIVE, and its map entry is cleared. -/
theorem State.closed_recordStatesOk {s : State} {p : Fin 32} {r : Record} {m : CloseMsg}
    (entry : s.capture.map[m.slot] = .record p) (held : s.record p = some r) (ok : s.recordStatesOk) :
    ((s.setMap m.slot .empty).setRecord p (some (r.closed m))).recordStatesOk := by
  obtain ⟨⟨names, once⟩, readingOk, ready⟩ := ok
  have active : r.state = .active := by
    obtain ⟨y, heldy, state⟩ := names _ _ entry
    rw [held] at heldy
    cases heldy
    exact state
  have set (q : Fin 32) := (s.setMap m.slot .empty).setRecord_record p q (some (r.closed m))
  refine ⟨⟨fun k q named => ?_, fun j k q hj hk => ?_⟩, ?_, ?_⟩
  · have old : (if k = m.slot then .empty else s.capture.map[k]) = MapEntry.record q :=
      (mapEntry_set s.capture.map m.slot k .empty).symm.trans named
    split_ifs at old with here
    obtain ⟨y, heldy, state⟩ := names k q old
    refine ⟨y, ?_, state⟩
    rw [set, if_neg fun same : q = p => here (once _ _ p (same ▸ old) entry)]
    exact heldy
  · have old (k : Fin 16) (named : ((s.setMap m.slot .empty).setRecord p (some (r.closed m))).capture.map[k] =
        .record q) : s.capture.map[k] = .record q := by
      have old : (if k = m.slot then .empty else s.capture.map[k]) = MapEntry.record q :=
        (mapEntry_set s.capture.map m.slot k .empty).symm.trans named
      split_ifs at old
      exact old
    exact once j k q (old j hj) (old k hk)
  · refine State.readingOk_of_set readingOk held set rfl ⟨fun state => ?_, fun state => by rw [active] at state; cases state⟩
    unfold Record.closed at state
    dsimp only at state
    split_ifs at state
  · refine State.readyComplete_of_set ready set fun state => ?_
    by_cases complete : r.allComplete = true
    · exact complete
    · simp [Record.closed, complete] at state

theorem State.startReadout_recordStatesOk {s : State} {p : Fin 32} {r : Record} (sel : Selection)
    (held : s.record p = some r) (state : r.state = .ready) (idle : s.readout.streaming = false)
    (ok : s.recordStatesOk) : (s.startReadout p r sel).recordStatesOk := by
  obtain ⟨mapOk, ⟨reads, -⟩, ready⟩ := ok
  have set (q : Fin 32) := s.startReadout_record p q r sel
  have readout : (s.startReadout p r sel).readout.streaming = true ∧
      (s.startReadout p r sel).readout.record = some p := by
    unfold State.startReadout
    dsimp only [State.setReadout]
    split
    · exact Readout.turnTo_frame _ _ _
    · exact ⟨rfl, rfl⟩
  refine ⟨State.mapOk_of_set mapOk held set rfl fun active => ?_, ⟨fun q x heldx reading => ?_, fun q record => ?_⟩,
    State.readyComplete_of_set ready set fun _ => ready p r held (.inl state)⟩
  · rw [state] at active
    cases active
  · rw [set] at heldx
    split_ifs at heldx with same
    · exact same ▸ readout
    · have streaming := (reads q x heldx reading).1
      rw [idle] at streaming
      cases streaming
  · rw [readout.2] at record
    cases record
    exact ⟨readout.1, _, (set p).trans (if_pos rfl), rfl⟩

/-- R130: after the end of a readout no record is READING. -/
theorem State.endReadout_recordStatesOk {s : State} (ok : s.recordStatesOk) : s.endReadout.recordStatesOk := by
  obtain ⟨⟨names, once⟩, ⟨reads, named⟩, ready⟩ := ok
  have record (q : Fin 32) := s.endReadout_record q
  have map : s.endReadout.capture.map = s.capture.map := by
    unfold State.endReadout
    dsimp only
    split
    · rfl
    · split <;> rfl
  have readout : s.endReadout.readout.record = none := by
    unfold State.endReadout
    dsimp only
    split
    · rfl
    · split <;> rfl
  refine ⟨⟨fun k q entry => ?_, map ▸ once⟩, ⟨fun q x held state => ?_, fun q here => ?_⟩, fun q x held state => ?_⟩
  · obtain ⟨r, held, state⟩ := names k q (map ▸ entry)
    refine ⟨r, ?_, state⟩
    rw [record, if_neg fun here => ?_]
    · exact held
    · obtain ⟨-, y, heldy, reading⟩ := named q here
      rw [held] at heldy
      cases heldy
      rw [state] at reading
      cases reading
  · rw [record] at held
    split_ifs at held with here
    · obtain ⟨r, -, rfl⟩ := Option.map_eq_some_iff.mp held
      cases state
    · exact absurd (reads q x held state).2 here
  · rw [readout] at here
    cases here
  · rw [record] at held
    split_ifs at held with here
    · obtain ⟨-, y, heldy, reading⟩ := named q here
      rw [heldy, Option.map_some] at held
      cases held
      exact ready q y heldy (.inr reading)
    · exact ready q x held state

theorem CaptureMove.recordStatesOk {s0 s t : State} (move : CaptureMove s0 s t) (ok : s.recordStatesOk) :
    t.recordStatesOk := by
  cases move with
  | entry p r c st f state held capture move chain station ready =>
    refine State.recordStatesOk_of_set ok held (fun q => s.entryChanged_record p q r c _ state) rfl rfl
      (fun active => ?_) ?_ fun goal => ?_
    · rcases ready with same | ⟨filling, -⟩
      · exact same.trans active
      · rw [filling] at active
        cases active
    · dsimp only
      rcases ready with same | ⟨filling, now, -⟩
      · rw [same]
      · rw [filling, now]
        exact ⟨nofun, nofun⟩
    · rcases ready with same | ⟨-, -, all⟩
      · exact CaptureSection.changeEntry_complete capture (ok.2.2 p r held (same ▸ goal)) move
      · exact all
  | freed p r held state =>
    have idle : r.state ≠ .active ∧ r.state ≠ .reading := by rcases state with h | h <;> rw [h] <;> decide
    exact ⟨State.freeRecord_mapOk held idle.1 ok.1, State.freeRecord_readingOk held idle.2 ok.2.1,
      State.freeRecord_readyComplete held ok.2.2⟩
  | released p r held state =>
    exact ⟨State.freeRecord_mapOk held (by rw [state]; decide) ok.1, State.released_readingOk held state ok.2.1,
      State.freeRecord_readyComplete held ok.2.2⟩
  | created p m free => exact State.createRecord_recordStatesOk m free ok
  | placed p r m stations held state =>
    exact State.recordStatesOk_of_set ok held (fun q => s.reserved_record p q r m stations) rfl rfl id Iff.rfl
      fun goal => by rcases goal with goal | goal <;> rw [state] at goal <;> cases goal
  | absent p r held =>
    exact State.recordStatesOk_of_set ok held (fun q => s.setRecord_record p q _) rfl rfl id Iff.rfl
      fun goal => ok.2.2 p r held goal
  | unmapped k x other =>
    obtain ⟨⟨names, once⟩, rest⟩ := ok
    have old {j : Fin 16} {q : Fin 32} (entry : (s.setMap k x).capture.map[j] = .record q) :
        s.capture.map[j] = .record q := by
      have entry := (mapEntry_set s.capture.map k j x).symm.trans entry
      split_ifs at entry
      · exact absurd entry (other q)
      · exact entry
    exact ⟨⟨fun j q entry => names j q (old entry), fun i j q hi hj => once i j q (old hi) (old hj)⟩, rest⟩
  | closed p r m entry held => exact State.closed_recordStatesOk entry held ok
  | readout x streaming record =>
    obtain ⟨mapOk, ⟨reads, named⟩, ready⟩ := ok
    refine ⟨mapOk, ⟨fun q y held state => ?_, fun q here => ?_⟩, ready⟩
    · exact ⟨streaming.trans (reads q y held state).1, record.trans (reads q y held state).2⟩
    · obtain ⟨going, rest⟩ := named q (record.symm.trans here)
      exact ⟨streaming.trans going, rest⟩
  | started p r sel held state idle => exact State.startReadout_recordStatesOk sel held state idle ok
  | ended => exact State.endReadout_recordStatesOk ok

/-- The three invariants of the event table together. -/
def State.tableOk (s : State) : Prop := s.numbersOk ∧ s.ordersOk ∧ s.recordStatesOk

/-- After each of the three resets there is no record, no map entry and no readout. -/
theorem State.tableOk_of_reset {s : State} (capture : s.capture = CaptureEngine.reset)
    (readout : s.readout.record = none) : s.tableOk := by
  have none (p : Fin 32) : s.record p = none := by rw [State.record, capture, CaptureEngine.reset_records]
  have absent {p : Fin 32} {r : Record} (held : s.record p = some r) : False := by
    rw [none p] at held
    cases held
  have empty (k : Fin 16) : s.capture.map[k] = .empty := by rw [capture]; simp [CaptureEngine.reset]
  refine ⟨⟨by rw [capture]; decide, by rw [capture]; decide, fun _ _ held => (absent held).elim,
    fun _ _ _ _ held => (absent held).elim⟩, ⟨fun _ _ held => (absent held).elim,
    fun _ _ _ _ held => (absent held).elim⟩, ⟨fun k p entry => ?_, fun k _ p entry => ?_⟩,
    ⟨fun _ _ held => (absent held).elim, fun p record => ?_⟩, fun _ _ held => (absent held).elim⟩
  · rw [empty k] at entry
    cases entry
  · rw [empty k] at entry
    cases entry
  · rw [readout] at record
    cases record

theorem Move.table {i : Instr} {s0 s t : State} (move : Move i s0 s t) (ok : s.tableOk) : t.tableOk := by
  cases move with
  | bank _ move =>
    rw [move.frame]
    exact ok
  | assoc _ move =>
    rw [move.frame]
    exact ok
  | capture _ move =>
    obtain ⟨numbers, orders, states⟩ := ok
    exact ⟨move.numbersOk numbers, move.ordersOk orders, move.recordStatesOk states⟩
  | engineReset => exact State.tableOk_of_reset rfl rfl
  | fullReset => exact State.tableOk_of_reset rfl rfl
  | powerOn => exact State.tableOk_of_reset rfl rfl
  | _ => exact ok

/-- Settles O49: each event keeps the identities of the records, creates one with an unused number behind the others,
or frees one that no map entry and no readout names. -/
theorem eventTableStaysConsistent : Obligations.EventTableStaysConsistent :=
  ⟨fun _ _ ok next => step_keeps (P := State.tableOk) (fun _ ok => ok) (fun _ _ _ _ _ move ok => move.table ok) ok next,
    fun _ _ ok next => step_keeps (P := State.entriesAscend) (fun _ ok => ok)
      (fun _ _ _ _ _ move ok => move.ascend ok) ok next⟩

end Sys2Proof.Machine
end

section
/-! PROOFS. The whole part: what a step runs, how a command can end, and the three resets. -/

namespace Sys2Proof.Machine

/-! ## One step (log 1, log 2, log 10) -/

theorem State.lostFaultArrives_of_nil {s : State} (none : s.ctrl.lostFaults = []) : s.lostFaultArrives = s := by
  rw [State.lostFaultArrives, none]

/-- Settles O1: the cases of the queue, and of the FAULT requests on their way. -/
theorem stepRunsFrontCommand : Obligations.StepRunsFrontCommand := by
  refine ⟨fun c rest s front => ?_, fun s empty => ⟨fun quiet => ?_, fun released _ => ?_⟩⟩
  · rw [step, front]
    simp only [State.dropPending, front, List.tail_cons]
  · rw [step, empty]
    simp only [State.idle]
    split_ifs with released
    · rcases quiet with none | held
      · rw [State.lostFaultArrives_of_nil none]
      · rw [held] at released
        cases released
    · rfl
  · rw [step, empty]
    simp only [State.idle, released, ↓reduceIte]

/-! ## The shapes of the rows -/

/-- How a row of the reaction table is made: an event that no block takes while RSTn is asserted, a command that the
unit controller takes, the staging of a data frame, a pin, or a row with an operand that names nothing. -/
inductive RowShape (s : State) : Instr → Out → Prop
  | event (c : Instr) (t : State) (wf : c.wf = true) : RowShape s c (s.whileReleased t)
  | command (c : Instr) (mine : Command → Bool) (run : Command → State → State) (wf : c.wf = true) :
      RowShape s c (s.takeCommand mine run)
  | staging : RowShape s .stageDataFrame (execStageDataFrame s)
  | asserted : RowShape s .rstnAsserted (execRstnAsserted s)
  | released (u : Nat) (straps : u < 32) (t : State) : RowShape s (.rstnReleased u) (.next t)
  | trdyAsserted : RowShape s .trdyAsserted (execTrdyAsserted s)
  | trdyWithdrawn : RowShape s .trdyWithdrawn (execTrdyWithdrawn s)
  | illFormed (c : Instr) (bad : c.wf = false) : RowShape s c (.refused .illFormed)

theorem execTransition_shape {c : Instr} {n : Nat} (wf : c.wf = stationOk n) (t : Transition) (s : State) :
    RowShape s c (execTransition n t s) := by
  unfold execTransition
  split_ifs with station
  · exact .event c _ (wf.trans (decide_eq_true station))
  · exact .illFormed c (wf.trans (decide_eq_false station))

theorem exec_shape (c : Instr) (s : State) : RowShape s c (exec c s) := by
  unfold exec
  cases c with
  | lineFrameReceived => exact .event _ _ rfl
  | silenceTimerExpiry => exact .event _ _ rfl
  | fieldCommandTxStart => exact .event _ _ rfl
  | fieldCommandTxDone => exact .event _ _ rfl
  | takeInstant => exact .event _ _ rfl
  | warmupEnd station => exact execTransition_shape rfl _ s
  | debounceComplete station => exact execTransition_shape rfl _ s
  | onMaxDuration station => exact execTransition_shape rfl _ s
  | holdEnd station => exact execTransition_shape rfl _ s
  | detectorLineLeave => exact .event _ _ rfl
  | associatorTakePick => exact .event _ _ rfl
  | associatorTakeLineMark => exact .event _ _ rfl
  | declareMessageTaken => exact .event _ _ rfl
  | bulkCopyRead place station =>
    show RowShape s _ (execBulkCopyRead place station s)
    unfold execBulkCopyRead
    split_ifs with named
    · exact .event _ _ (by simp [Instr.wf, placeOk, stationOk, named])
    · exact .illFormed _ (by simp only [Instr.wf, placeOk, stationOk, ← Bool.decide_and]; exact decide_eq_false named)
  | closeMessageTaken => exact .event _ _ rfl
  | downlinkFrameReceived => exact .event _ _ rfl
  | arbiterChoice => exact .event _ _ rfl
  | uplinkTxDone => exact .event _ _ rfl
  | stageDataFrame => exact .staging
  | switchedReport => exact .event _ _ rfl
  | rstnAsserted => exact .asserted
  | rstnReleased straps =>
    show RowShape s _ (execRstnReleased straps s)
    unfold execRstnReleased
    split_ifs with named
    · exact .released _ named _
    · exact .released _ named _
    · exact .illFormed _ (decide_eq_false named)
  | trdyAsserted => exact .trdyAsserted
  | trdyWithdrawn => exact .trdyWithdrawn
  | _ => exact .command _ _ _ rfl

/-- R129, log 19: a row either goes on, or names nothing, or is a staging that finds no block. -/
theorem stageCapture_outcome (s : State) (st : Station) :
    (∃ t, s.stageCapture st = .next t) ∨ s.stageCapture st = .fault .captureHole := by
  unfold State.stageCapture
  split
  · exact .inr rfl
  · split
    · exact .inr rfl
    · exact .inl ⟨_, rfl⟩

theorem execStageDataFrame_outcome (s : State) : (∃ t, execStageDataFrame s = .next t) ∨
    (execStageDataFrame s = .fault .captureHole ∧ s.readout.streaming = true ∧ s.readout.current.isSome = true) := by
  unfold execStageDataFrame
  split
  · rename_i ready
    simp only [Bool.and_eq_true] at ready
    obtain ⟨⟨⟨-, streaming⟩, -⟩, -⟩ := ready
    split
    · rename_i st current
      split
      · exact .inl ⟨_, rfl⟩
      · rcases stageCapture_outcome s st with going | hole
        · exact .inl going
        · exact .inr ⟨hole, streaming, current ▸ rfl⟩
    · exact .inl ⟨_, rfl⟩
  · exact .inl ⟨_, rfl⟩

/-- Log 19, log 20: how a row can end. -/
theorem RowShape.outcome {s : State} {c : Instr} {o : Out} (shape : RowShape s c o) :
    (c.wf = true ∧ ∃ t, o = .next t) ∨ (c.wf = false ∧ o = .refused .illFormed) ∨
      (c = .stageDataFrame ∧ o = .fault .captureHole ∧ s.readout.streaming = true ∧
        s.readout.current.isSome = true) := by
  cases shape with
  | event _ t wf => exact .inl ⟨wf, _, rfl⟩
  | command _ mine run wf => exact .inl ⟨wf, State.takeCommand_next s mine run⟩
  | staging =>
    rcases execStageDataFrame_outcome s with going | hole
    · exact .inl ⟨rfl, going⟩
    · exact .inr (.inr ⟨rfl, hole⟩)
  | asserted => exact .inl ⟨rfl, _, rfl⟩
  | released u straps t => exact .inl ⟨decide_eq_true straps, _, rfl⟩
  | trdyAsserted => exact .inl ⟨rfl, _, rfl⟩
  | trdyWithdrawn => exact .inl ⟨rfl, _, rfl⟩
  | illFormed _ bad => exact .inr (.inl ⟨bad, rfl⟩)

/-- Settles O2: a row ends as its shape says, and no move touches the queue. -/
theorem outcomesOfCommands : Obligations.OutcomesOfCommands := by
  intro c s
  refine ⟨fun bad => ?_, fun wf r => ?_, fun f fault => ?_, fun t next => Moves.pending (exec_moves next)⟩
  · rcases (exec_shape c s).outcome with ⟨wf, -⟩ | ⟨-, refused⟩ | ⟨rfl, -⟩
    · rw [bad] at wf
      cases wf
    · exact refused
    · cases bad
  · rcases (exec_shape c s).outcome with ⟨-, t, next⟩ | ⟨bad, -⟩ | ⟨-, fault, -⟩
    · rw [next]
      exact nofun
    · rw [wf] at bad
      cases bad
    · rw [fault]
      exact nofun
  · rcases (exec_shape c s).outcome with ⟨-, t, next⟩ | ⟨-, refused⟩ | ⟨row, hole, state⟩
    · rw [next] at fault
      cases fault
    · rw [refused] at fault
      cases fault
    · rw [hole] at fault
      cases fault
      exact ⟨row, rfl, state⟩

/-! ## RSTn (R162) -/

/-- R162: while RSTn is asserted a row other than the pins' and RSTn's own does nothing. -/
theorem RowShape.held {s : State} {c : Instr} {o : Out} (shape : RowShape s c o) (low : s.pins.rstn = false)
    (wf : c.wf = true) (assert : c ≠ .trdyAsserted) (withdraw : c ≠ .trdyWithdrawn) (rstn : c ≠ .rstnAsserted)
    (release : ∀ u, c ≠ .rstnReleased u) : o = .next s := by
  cases shape with
  | event _ t => rw [State.whileReleased, low, if_neg Bool.false_ne_true]
  | command _ mine run =>
    have none : s.commandFor mine = none := by rw [State.commandFor, low, Bool.false_and, if_neg Bool.false_ne_true]
    rw [State.takeCommand, none]
  | staging => rw [execStageDataFrame, low, Bool.false_and, Bool.false_and, Bool.false_and, if_neg Bool.false_ne_true]
  | asserted => exact absurd rfl rstn
  | released u => exact absurd rfl (release u)
  | trdyAsserted => exact absurd rfl assert
  | trdyWithdrawn => exact absurd rfl withdraw
  | illFormed _ bad =>
    rw [wf] at bad
    cases bad

/-- Settles O3: the power-on values, the rows while RSTn is held, and its release. -/
theorem resetPinHoldsThePart : Obligations.ResetPinHoldsThePart := by
  intro s
  refine ⟨⟨_, rfl, rfl, rfl, rfl, rfl, rfl, rfl, rfl, rfl, rfl, rfl, rfl, rfl⟩,
    fun low c wf assert withdraw rstn release => (exec_shape c s).held low wf assert withdraw rstn release,
    fun low u straps => ?_⟩
  show execRstnReleased u s = _
  rw [execRstnReleased, if_pos straps, low, if_neg Bool.false_ne_true, State.powerOn, latchAddress]

/-! ## RESET ENGINE and RESET FULL (R161) -/

theorem execResetEngine_taken {s : State} {c : Command} (can : s.canTake c) (code : c.code = 0x11)
    (params : c.params = [1]) : execResetEngine s = .next (s.dropCommand.answer c .done []).engineReset :=
  State.takeCommand_mine can (by simp [Command.isReset, Command.hasCode, code, params]) _

theorem execResetFull_taken {s : State} {c : Command} (can : s.canTake c) (code : c.code = 0x11)
    (params : c.params = [2]) : execResetFull s = .next (s.dropCommand.answer c .done []).fullReset :=
  State.takeCommand_mine can (by simp [Command.isReset, Command.hasCode, code, params]) _

theorem CaptureEngine.reset_freeList : CaptureEngine.reset.freeList = List.range 1024 := by
  have pool : Config.poolBlocks = 1024 := rfl
  rw [CaptureEngine.reset, pool]

/-- The values that each of the three resets gives the engine. -/
structure State.engineCleared (t : State) : Prop where
  queue : t.pickQueue = []
  flags : t.ctrl.flags = Flags.clear
  notice : t.trunk.notice = []
  assoc : t.assoc = Associator.reset
  channel : t.channel = []
  capture : t.capture = CaptureEngine.reset
  readout : t.readout = Readout.reset
  staged : t.trunk.staged = none

theorem State.engineCleared_of_resetTo {s t : State} (reset : s.resetTo t) : t.engineCleared := by
  rcases reset with power | ⟨c, can, code, ⟨params, engine⟩ | ⟨params, full⟩⟩
  · cases power
    exact ⟨rfl, rfl, rfl, rfl, rfl, rfl, rfl, rfl⟩
  · replace engine := (execResetEngine_taken can code params).symm.trans engine
    cases engine
    exact ⟨rfl, rfl, rfl, rfl, rfl, rfl, rfl, rfl⟩
  · replace full := (execResetFull_taken can code params).symm.trans full
    cases full
    exact ⟨rfl, rfl, rfl, rfl, rfl, rfl, rfl, rfl⟩

/-- Settles O4: each of the three resets gives the engine the same values. -/
theorem everyResetClearsTheEngine : Obligations.EveryResetClearsTheEngine := by
  intro s t reset
  obtain ⟨queue, flags, notice, assoc, channel, capture, readout, staged⟩ := State.engineCleared_of_resetTo reset
  refine ⟨queue, flags, notice, fun l => ?_, by rw [assoc]; rfl, fun k => ?_, by rw [assoc]; rfl, by rw [assoc]; rfl,
    by rw [assoc]; rfl, channel, fun p => ?_, fun k => ?_, by rw [capture]; rfl, ?_, by rw [readout]; rfl,
    by rw [readout]; rfl, by rw [readout]; rfl, by rw [readout]; rfl, by rw [readout]; rfl, by rw [readout]; rfl,
    by rw [readout]; rfl, by rw [readout]; rfl, staged⟩
  · rw [assoc]
    cases l <;> rfl
  · rw [State.candidate, assoc]
    exact Associator.reset_slots k
  · rw [State.record, capture, CaptureEngine.reset_records]
  · rw [capture]
    simp [CaptureEngine.reset]
  · exact capture ▸ CaptureEngine.reset_freeList

theorem State.engineReset_bankLine (s : State) (l : Line) :
    s.engineReset.bankLine l = { s.bankLine l with inUse := .active, switch := none } := by cases l <;> rfl

/-- R46, R47, R65: the detector's state from its entry in the active bank and the conditions of activity. -/
theorem StationState.engineReset_eq (x : StationState) (enabled live test : Bool) :
    x.engineReset enabled live test =
      { x with
        det := if enabled = false then .off
          else if live = true ∧ test = false ∧ detectionAllowed x.confirmed = true then .warmup else .suspended
        warm := 0, debounce := 0, onCount := 0, hold := 0, detection := none } := by
  unfold StationState.engineReset
  simp only [← conditionsHold_iff, Bool.not_eq_true']

/-- Settles O5: the reply is queued first, and each block's reset is then its chapter's. -/
theorem commandResetsByBlock : Obligations.CommandResetsByBlock := by
  intro s c can code
  refine ⟨fun params => ?_, fun params => ?_⟩
  · show ∃ t, execResetEngine s = .next t ∧ _
    rw [execResetEngine_taken can code params, State.dropCommand_answer]
    refine ⟨_, rfl, rfl, rfl, rfl, rfl, rfl, rfl, rfl, fun l => ?_, fun i => ?_⟩
    · rw [State.engineReset_bankLine]
      rfl
    · rw [State.engineReset_station, StationState.engineReset_eq]
      rfl
  · show execResetFull s = _
    rw [execResetFull_taken can code params, State.dropCommand_answer]
    rfl

/-- Settles O6: each invariant of the state with no entry, no candidate, no record and default tables. -/
theorem resetMeetsTheInvariants : Obligations.ResetMeetsTheInvariants := by
  obtain ⟨numbers, orders, states⟩ := State.tableOk_of_reset (s := State.reset) rfl rfl
  have places : State.reset.placesBut :=
    ⟨fun l => by cases l <;> exact LinePort.reset_bounded, fun i => by rw [State.reset_station]; exact Nat.zero_le 2,
      Nat.zero_le 4, Nat.zero_le 8, Nat.zero_le 4, Nat.zero_le 16⟩
  exact ⟨(State.placesBounded_iff _).mpr ⟨places, Nat.zero_le 64⟩, State.reset_memory_wf,
    fun l => by cases l <;> exact LinePort.reset_sequenceOk, fun i => State.reset_station i ▸ StationState.reset_inRange,
    ⟨nofun, nofun, by decide⟩, State.pickListsOk_of_empty Associator.reset_slots rfl CaptureEngine.reset_records,
    CaptureEngine.reset_blocksAccounted rfl, State.runsOk_of_empty CaptureEngine.reset_records, numbers, orders, states,
    State.entriesAscend_of_empty CaptureEngine.reset_records, State.detectorsOk_of_reset rfl rfl rfl rfl rfl,
    State.tablesInRange_default rfl rfl rfl⟩

end Sys2Proof.Machine
end

section
/-! PROOFS. The serial order of indices, and the frames that a receiver finds (R1, R3, R66, R136, R164). -/

namespace Sys2Proof.Machine

/-! ## Serial order (R66) -/

theorem sub_toNat (a b : Index) : (b - a).toNat = (b.toNat + 4294967296 - a.toNat) % 4294967296 := by
  rw [BitVec.toNat_sub]
  omega

theorem precedes_iff_between (a b : Index) :
    precedes a b = true ↔ 1 ≤ (b - a).toNat ∧ (b - a).toNat ≤ 2147483647 := by
  rw [precedes, Bool.and_eq_true, decide_eq_true_eq, decide_eq_true_eq]

theorem precedes_eq_false_iff (a b : Index) :
    precedes a b = false ↔ ¬ (1 ≤ (b - a).toNat ∧ (b - a).toNat ≤ 2147483647) := by
  rw [← precedes_iff_between, Bool.not_eq_true]

/-- Settles O9: each clause speaks of the two differences mod 2^32. -/
theorem serialOrderOfIndices : Obligations.SerialOrderOfIndices := by
  intro a b
  rw [← sub_toNat a b, ← sub_toNat b a]
  refine ⟨precedes_iff_between a b, fun before => ?_, ?_, ?_, rfl, rfl, Nat.min_comm _ _, ?_⟩
  · rw [precedes_iff_between] at before
    rw [precedes_eq_false_iff]
    bv_omega
  · rw [precedes_eq_false_iff, precedes_eq_false_iff]
    bv_omega
  · rw [atOrAfter, Bool.or_eq_true, decide_eq_true_eq]
  · have either : (a - b).toNat ≤ 2147483648 ∨ (b - a).toNat ≤ 2147483648 := by bv_omega
    rw [serialDistance]
    omega

/-! ## The receiver (R1, R136) -/

theorem be16_eq_iff {n : Nat} (low : n < 65536) (hi lo : Byte) : be16 n = [hi, lo] ↔ hi.toNat * 256 + lo.toNat = n := by
  have parts : be16 n = [hi, lo] ↔ n / 256 % 256 = hi.toNat ∧ n % 256 = lo.toNat := by
    simp [be16, byte, ← BitVec.toNat_inj]
  rw [parts]
  omega

theorem crc_lt (bytes : List Byte) : (crc bytes).toNat < 65536 := (crc bytes).isLt

/-- R1: the bytes after a start pattern, when the whole frame has arrived. -/
theorem judgeEnvelope_whole {l1 l0 : Byte} {payload : List Byte} (kind c1 c0 : Byte) (rest : List Byte)
    (length : payload.length = l1.toNat * 256 + l0.toNat) (short : payload.length ≤ 2047) :
    judgeEnvelope (kind :: l1 :: l0 :: (payload ++ c1 :: c0 :: rest)) =
      if c1.toNat * 256 + c0.toNat = (crc (kind :: l1 :: l0 :: payload)).toNat then .good ⟨kind, payload⟩ rest
      else .bad := by
  have fits : ¬ Config.maxLength < payload.length := by
    simp only [Config.maxLength]
    omega
  have arrived : ¬ (payload ++ c1 :: c0 :: rest).length < payload.length + 2 := by
    simp only [List.length_append, List.length_cons]
    omega
  have after : (payload ++ c1 :: c0 :: rest).drop (payload.length + 2) = rest := by
    rw [List.drop_length_add_append]
    rfl
  simp only [judgeEnvelope, ← length, fits, arrived, ↓reduceIte, List.take_left', List.drop_left', List.take_succ_cons,
    List.take_zero, after, be16_eq_iff (crc_lt _)]

theorem hunt_skip {b : Byte} (other : b ≠ 0xC3) (bytes : List Byte) : hunt (b :: bytes) = hunt bytes := by
  rw [hunt]
  exact if_neg other

/-- R1: bytes that do not begin a start pattern are passed over. -/
theorem hunt_noise : ∀ {noise : List Byte} (bytes : List Byte), (∀ b ∈ noise, b ≠ 0xC3) →
    hunt (noise ++ bytes) = hunt bytes
  | [], _, _ => rfl
  | b :: noise, bytes, other => by
    rw [List.cons_append, hunt_skip (other b List.mem_cons_self)]
    exact hunt_noise bytes fun c mem => other c (List.mem_cons_of_mem b mem)

/-- R1: what the receiver does at a start pattern. -/
theorem hunt_start (bytes : List Byte) : hunt (0xC3 :: 0x3C :: bytes) =
    match judgeEnvelope bytes with
    | .incomplete => (none, 0xC3 :: 0x3C :: bytes)
    | .bad => hunt (0x3C :: bytes)
    | .good f rest => (some f, rest) := by
  rw [hunt]
  rfl

/-- R1: a frame that is not well formed costs its start pattern only. -/
theorem hunt_bad {bytes : List Byte} (bad : judgeEnvelope bytes = .bad) : hunt (0xC3 :: 0x3C :: bytes) = hunt bytes := by
  rw [hunt_start, bad]
  exact hunt_skip (by decide) bytes

theorem be16_parts {n : Nat} (low : n < 65536) : (byte (n / 256)).toNat * 256 + (byte n).toNat = n :=
  (be16_eq_iff low _ _).mp rfl

/-- R1, R136, R164: a frame sent is found whole. -/
theorem hunt_envelope (kind : Byte) {payload : List Byte} (short : payload.length ≤ 2047) (rest : List Byte) :
    hunt (envelope kind payload ++ rest) = (some ⟨kind, payload⟩, rest) := by
  have check := be16_parts (crc_lt (kind :: be16 payload.length ++ payload))
  have bytes : envelope kind payload ++ rest = 0xC3 :: 0x3C :: kind :: byte (payload.length / 256) ::
      byte payload.length :: (payload ++ byte ((crc (kind :: be16 payload.length ++ payload)).toNat / 256) ::
        byte (crc (kind :: be16 payload.length ++ payload)).toNat :: rest) := by
    simp [envelope, frameBody, frameHead, be16]
  have judged := (judgeEnvelope_whole kind _ _ rest (be16_parts (n := payload.length) (by omega)).symm short).trans
    (if_pos check)
  rw [bytes, hunt_start, judged]

/-- Settles O10: the receiver's cases at a start pattern, and the bytes in front of it. -/
theorem receiverFindsSentFrames : Obligations.ReceiverFindsSentFrames := by
  refine ⟨fun kind payload => rfl, rfl, fun bytes b => ?_, fun noise rest payload kind other short => ?_,
    fun kind l1 l0 rest long => ?_, fun kind l1 l0 c1 c0 payload rest length short wrong => ?_⟩
  · rw [crc, List.foldl_append]
    rfl
  · rw [hunt_noise _ other, hunt_envelope kind short rest]
  · refine hunt_bad ?_
    simp only [judgeEnvelope, Config.maxLength, long, ↓reduceIte]
  · refine hunt_bad ?_
    rw [judgeEnvelope_whole kind c1 c0 rest length short, if_neg wrong]

/-! ## SAMPLE frames (R3, R165) -/

theorem at24_toNat (bytes : List Byte) (k : Nat) : (at24 bytes k).toNat = 256 * at16 bytes k + at8 bytes (k + 2) := by
  have word := at16_lt bytes k
  have low : at8 bytes (k + 2) < 256 := (bytes.getD (k + 2) 0).isLt
  rw [at24, BitVec.toNat_ofNat, show at8 bytes k * 256 + at8 bytes (k + 1) = at16 bytes k from rfl,
    Nat.mod_eq_of_lt (by omega), Nat.mul_comm]

theorem at32_toNat (bytes : List Byte) (k : Nat) : (at32 bytes k).toNat = 65536 * at16 bytes k + at16 bytes (k + 2) := by
  have high := at16_lt bytes k
  have low := at16_lt bytes (k + 2)
  rw [at32, BitVec.toNat_ofNat, Nat.mod_eq_of_lt (by omega), Nat.mul_comm]

/-- The slot that starts at an offset. -/
def slotAt (bytes : List Byte) (offset : Nat) : SlotData := ⟨bytes.getD (offset + 1) 0, atSamples bytes (offset + 2)⟩

/-- R3: a slot fills the place of its position where that place is empty. -/
theorem placeSlot_get (map : PositionMap) (bytes : List Byte) (offset : Nat) (q : Fin 32) :
    (placeSlot map bytes offset)[q] =
      if at8 bytes offset = q.val ∧ map[q] = none then some (slotAt bytes offset) else map[q] := by
  by_cases known : at8 bytes offset < 32
  · have same (here : at8 bytes offset = q.val) : map[at8 bytes offset] = map[q] := by simp [here]
    rw [placeSlot, dif_pos known]
    cases held : map[at8 bytes offset] with
    | some d =>
      rw [if_neg]
      rintro ⟨here, empty⟩
      rw [same here, empty] at held
      cases held
    | none =>
      rw [Vector.get_set_fin]
      by_cases here : at8 bytes offset = q.val
      · rw [if_pos here.symm, if_pos ⟨here, (same here).symm.trans held⟩]
        rfl
      · rw [if_neg (Ne.symm here), if_neg fun h => here h.1]
  · rw [placeSlot, dif_neg known, if_neg]
    exact fun ⟨here, _⟩ => known (here ▸ q.isLt)

/-- R3: after some slots each place holds what it held, or the first of the slots that names it. -/
theorem placeSlots_get (bytes : List Byte) (offset : Nat → Nat) (q : Fin 32) : ∀ (ks : List Nat) (map : PositionMap),
    (ks.foldl (fun map k => placeSlot map bytes (offset k)) map)[q] =
      (map[q]).or ((ks.find? fun k => decide (at8 bytes (offset k) = q.val)).map fun k => slotAt bytes (offset k))
  | [], map => by simp
  | k :: ks, map => by
    rw [List.foldl_cons, placeSlots_get bytes offset q ks, placeSlot_get]
    by_cases here : at8 bytes (offset k) = q.val
    · cases held : map[q] <;> simp [here]
    · rw [List.find?_cons_of_neg (by simpa using here)]
      simp [here]

theorem parseSample_eq_none_iff (payload : List Byte) : parseSample payload = none ↔
    at8 payload 5 = 0 ∨ 32 < at8 payload 5 ∨ payload.length ≠ 6 + 11 * at8 payload 5 := by
  unfold parseSample
  split_ifs with truncated
  · exact ⟨fun _ => truncated, fun _ => rfl⟩
  · exact ⟨nofun, fun h => absurd h truncated⟩

/-- Settles O12: the field readings, and the slots read one by one. -/
theorem firstSlotFillsThePlace : Obligations.FirstSlotFillsThePlace := by
  refine ⟨fun bytes k => ⟨rfl, by rw [at16, Nat.mul_comm], at32_toNat bytes k, at24_toNat bytes k,
    at24_toNat bytes (k + 3), at24_toNat bytes (k + 6)⟩, fun payload => ⟨parseSample_eq_none_iff payload, fun f parsed => ?_⟩⟩
  unfold parseSample at parsed
  split_ifs at parsed
  cases parsed
  refine ⟨rfl, rfl, fun q => ?_⟩
  rw [positionMap, placeSlots_get payload (fun k => 6 + 11 * k)]
  have empty : (Vector.replicate 32 (none : Option SlotData))[q] = none := by simp
  rw [empty, Option.none_or]
  simp only [slotAt, Nat.add_right_comm 6 _ 1, Nat.add_right_comm 6 _ 2]

end Sys2Proof.Machine
end

section
/-! PROOFS. The line ports: frames by KIND, frames in LIVE, and silence (R2, R4, R7 to R13). -/

namespace Sys2Proof.Machine

/-! ## Frames by KIND (R2, R4) -/

/-- R1: one whole frame in the receiver is treated, and leaves no byte behind. -/
theorem execLineFrameReceived_whole {s : State} (l : Line) {kind : Byte} {payload bytes : List Byte}
    (released : s.pins.rstn = true) (short : payload.length ≤ 2047)
    (whole : (s.port l).rx ++ bytes = envelope kind payload) :
    execLineFrameReceived l bytes s =
      .next ((s.setPort l { s.port l with rx := [] }).lineFrame l ⟨kind, payload⟩) := by
  have found : hunt ((s.port l).rx ++ bytes) = (some ⟨kind, payload⟩, []) := by
    rw [whole, ← List.append_nil (envelope kind payload), hunt_envelope kind short]
  simp only [execLineFrameReceived, State.whileReleased_of_released released, found]

theorem State.offerPass_ports (s : State) (l : Line) (f : RxFrame) : (s.offerPass l f).ports = s.ports := by
  unfold State.offerPass
  split_ifs
  · exact s.report_ports _ _
  · rfl
  · rfl

/-- Settles O11: the receiver's frame, its KIND, and the offer to the PASS queue. -/
theorem lineFramesTreatedByKind : Obligations.LineFramesTreatedByKind := by
  refine ⟨fun s l kind payload bytes released short whole => ?_, fun s l kind payload =>
    ⟨s.offerPass_ports l ⟨kind, payload⟩, ?_⟩⟩
  · exact execLineFrameReceived_whole l released short whole
  · unfold State.offerPass
    cases forwarding : s.ctrl.settings.forwarding.get l with
    | false => rfl
    | true =>
      have room : (Config.maxPassPayload < payload.length ∨ Config.passPlaces ≤ s.trunk.pass.length) ↔
          ¬ (payload.length ≤ 2041 ∧ s.trunk.pass.length < 8) := by
        simp only [Config.maxPassPayload, Config.passPlaces]
        omega
      simp only [room, ite_not, ↓reduceIte]
      rfl

/-! ## Frames in LIVE (R8 to R13) -/

theorem State.acceptSample_live {s : State} {l : Line} (f : SampleFrame) (live : (s.port l).state = .live) :
    s.acceptSample l f = (s.setPort l (s.restartedPort l)).frameInLive l f := by
  simp only [State.acceptSample, live, State.restartSilence_eq]

/-- R12: a frame handed on is dropped from detection at a full buffer. -/
theorem State.bufferFrame_setPort_of_full (s : State) (l : Line) (p : LinePort) (f : SampleFrame) (fill : Nat)
    (full : ¬ p.buffer.length < 4) : (s.setPort l p).bufferFrame l f fill =
      (s.setPort l { p with overrunFill := fill + 1 }).report .lineOverrun (byte (lineCode l)) := by
  simp [State.bufferFrame, Config.inputPlaces, full]

/-- R11: a line-leave, with the state of the port and the bank's line written out. -/
theorem State.lineLeave_setPort (s : State) (l : Line) (p : LinePort) : (s.setPort l p).lineLeave l =
    (s.setPort l { p with buffer := [], overrunFill := 0 }).setBankLine l
      { s.bankLine l with leaves := (s.bankLine l).leaves + 1 } := by
  simp [State.lineLeave]

theorem State.setBankLine_setPort (s : State) (l : Line) (b : BankLine) (p : LinePort) :
    (s.setBankLine l b).setPort l p = (s.setPort l p).setBankLine l b := rfl

theorem State.request_setBankLine (s : State) (l : Line) (b : BankLine) (n : Notice) :
    (s.setBankLine l b).request n = (s.request n).setBankLine l b := by
  obtain ⟨ns, fl, lf, same, -⟩ := s.request_spec n
  have bank : s.bank = (s.request n).bank := by rw [same]; rfl
  have reports : s.ctrl.reports = (s.request n).ctrl.reports := by rw [same]; rfl
  have moved := State.request_withBank s { s.bank with lines := s.bank.lines.set l b } s.ctrl.reports n
  refine moved.trans ?_
  rw [State.setBankLine, ← bank, State.withBank, reports]

/-- R10, R11: out of LIVE, with this frame as the first of a new run. -/
theorem State.leaveToSync_setPort (s : State) (l : Line) (p : LinePort) (i : Index) (cause : LineCause) :
    (((s.setPort l p).lineLeave l).startSync l i).lineNotice l cause (some i) =
      ((s.request (.lineChange cause l .sync p.test (some i))).setPort l
        { p with
          state := .sync, run := 1, backward := 0, expected := some (i + 1), buffer := [], overrunFill := 0 }).setBankLine l
        { s.bankLine l with leaves := (s.bankLine l).leaves + 1 } := by
  have moved : ((s.setPort l p).lineLeave l).startSync l i =
      (s.setBankLine l { s.bankLine l with leaves := (s.bankLine l).leaves + 1 }).setPort l
        { p with state := .sync, run := 1, backward := 0, expected := some (i + 1), buffer := [], overrunFill := 0 } := by
    rw [State.lineLeave_setPort, ← State.setBankLine_setPort, State.startSync_setPort]
  rw [moved, State.lineNotice_setPort, State.request_setBankLine, State.setBankLine_setPort]

theorem classify_near {e i : Index} {gap : Nat} (near : (i - e).toNat ≤ gap) :
    classify (some e) gap i = .handedOn (i - e).toNat := if_pos near

theorem classify_beyond {e i : Index} {gap : Nat} (far : gap < (i - e).toNat) (later : (i - e).toNat ≤ 2147483648) :
    classify (some e) gap i = .beyond := (if_neg (Nat.not_le.mpr far)).trans (if_pos later)

theorem classify_backward {e i : Index} {gap : Nat} (far : gap < (i - e).toNat) (earlier : 2147483648 < (i - e).toNat) :
    classify (some e) gap i = .backward := (if_neg (Nat.not_le.mpr far)).trans (if_neg (Nat.not_le.mpr earlier))

/-- R9: a frame handed on, at a port in LIVE. -/
theorem State.frameInLive_handedOn {p : LinePort} {f : SampleFrame} {e : Index} (s : State) (l : Line)
    (expected : p.expected = some e) (near : (f.index - e).toNat ≤ s.ctrl.settings.gap) :
    (s.setPort l p).frameInLive l f =
      ((s.requestAll (markerNotices l p.state p.test f)).setPort l
        { p with
          expected := some (f.index + 1), backward := 0, overrunFill := 0, test := testAfter f.marker }).bufferFrame l f
        ((f.index - e).toNat + p.overrunFill) := by
  simp only [State.frameInLive, State.setPort_port_same, State.setPort_ctrl, expected, classify_near near,
    State.setPort_setPort, State.actMarker_setPort]

/-- R8, R10: a frame beyond the gap-fill limit, at a port in LIVE. -/
theorem State.frameInLive_beyond {p : LinePort} {f : SampleFrame} {e : Index} (s : State) (l : Line)
    (expected : p.expected = some e) (far : s.ctrl.settings.gap < (f.index - e).toNat)
    (later : (f.index - e).toNat ≤ 2147483648) : (s.setPort l p).frameInLive l f =
      (((s.setPort l p).lineLeave l).startSync l f.index).lineNotice l .gapExceeded (some f.index) := by
  simp only [State.frameInLive, State.setPort_port_same, State.setPort_ctrl, expected, classify_beyond far later]

/-- R10: the fourth backward frame in a row. -/
theorem State.frameInLive_backwardRun {p : LinePort} {f : SampleFrame} {e : Index} (s : State) (l : Line)
    (expected : p.expected = some e) (far : s.ctrl.settings.gap < (f.index - e).toNat)
    (earlier : 2147483648 < (f.index - e).toNat) (run : p.backward = 3) : (s.setPort l p).frameInLive l f =
      (((s.setPort l p).lineLeave l).startSync l f.index).lineNotice l .backwardRun (some f.index) := by
  simp only [State.frameInLive, State.setPort_port_same, State.setPort_ctrl, expected, classify_backward far earlier, run,
    Config.backwardRun, Nat.reduceAdd, le_refl, ↓reduceIte]

/-- R10: a backward frame of a shorter run. -/
theorem State.frameInLive_backward {p : LinePort} {f : SampleFrame} {e : Index} (s : State) (l : Line)
    (expected : p.expected = some e) (far : s.ctrl.settings.gap < (f.index - e).toNat)
    (earlier : 2147483648 < (f.index - e).toNat) (short : p.backward < 3) : (s.setPort l p).frameInLive l f =
      s.setPort l { p with backward := p.backward + 1 } := by
  have going : ¬ Config.backwardRun ≤ p.backward + 1 := by
    simp only [Config.backwardRun]
    omega
  simp only [State.frameInLive, State.setPort_port_same, State.setPort_ctrl, expected, classify_backward far earlier,
    going, ↓reduceIte, State.setPort_setPort]

/-- Settles O15: the class of the frame by its distance, and the room in the buffer. -/
theorem framesInLive : Obligations.FramesInLive := by
  intro s l f e live expected
  have known : (s.restartedPort l).expected = some e := expected
  rw [State.acceptSample_live f live]
  refine ⟨fun near => ?_, fun far leaves => ?_, fun far earlier short => ?_, ?_⟩
  · rw [State.frameInLive_handedOn s l known near]
    have notices : markerNotices l (s.restartedPort l).state (s.restartedPort l).test f =
        markerNotices l .live (s.port l).test f := by rw [← live]; rfl
    rw [notices]
    by_cases room : (s.port l).buffer.length < 4
    · rw [State.bufferFrame_setPort_of_room]
      · exact (if_pos room).symm
      · exact room
    · rw [State.bufferFrame_setPort_of_full]
      · exact (if_neg room).symm
      · exact room
  · by_cases later : (f.index - e).toNat ≤ 2147483648
    · rw [State.frameInLive_beyond s l known far later, State.leaveToSync_setPort, if_pos later]
      rfl
    · have run : (s.restartedPort l).backward = 3 := leaves.resolve_left later
      rw [State.frameInLive_backwardRun s l known far (Nat.lt_of_not_le later) run, State.leaveToSync_setPort,
        if_neg later]
      rfl
  · exact State.frameInLive_backward s l known far earlier short
  · rw [testAfter, Bool.or_eq_true, decide_eq_true_eq, decide_eq_true_eq]

/-! ## Silence (R7) -/

/-- R7: the port of a line that the silence timer takes to DOWN. -/
def LinePort.silenced (p : LinePort) : LinePort :=
  { p with state := .down, silence := none, expected := none, run := 0 }

theorem execSilenceTimerExpiry_sync {s : State} {l : Line} (released : s.pins.rstn = true)
    (running : (s.port l).silence.isNone = false) (sync : (s.port l).state = .sync) :
    execSilenceTimerExpiry l s = .next ((s.setPort l (s.port l).silenced).lineNotice l .silence none) := by
  simp only [execSilenceTimerExpiry, State.whileReleased_of_released released, running, sync, Bool.false_eq_true,
    ↓reduceIte]
  rfl

theorem execSilenceTimerExpiry_live {s : State} {l : Line} (released : s.pins.rstn = true)
    (running : (s.port l).silence.isNone = false) (live : (s.port l).state = .live) :
    execSilenceTimerExpiry l s = .next
      (((s.lineLeave l).setPort l ((s.lineLeave l).port l).silenced).lineNotice l .silence none) := by
  simp only [execSilenceTimerExpiry, State.whileReleased_of_released released, running, live, Bool.false_eq_true,
    ↓reduceIte]
  rfl

/-- Settles O17: the timer's two cases; in LIVE the line-leave comes first. -/
theorem silenceTakesTheLineDown : Obligations.SilenceTakesTheLineDown := by
  intro s l released running
  have going : (s.port l).silence.isNone = false := by rw [← Option.not_isSome, running]; rfl
  refine ⟨fun sync => ?_, fun live => ?_⟩
  · refine (execSilenceTimerExpiry_sync released going sync).trans ?_
    rw [State.lineNotice_setPort]
    rfl
  · refine (execSilenceTimerExpiry_live released going live).trans ?_
    have left := s.lineLeave_setPort l (s.port l)
    rw [State.setPort_self] at left
    rw [left, ← State.setBankLine_setPort, State.setPort_port_same, State.setPort_setPort, State.lineNotice_setPort,
      State.request_setBankLine, State.setBankLine_setPort]
    rfl

end Sys2Proof.Machine
end

section
/-! PROOFS. One instant: which is taken, and what it changes (R12, R59, R60, R61, R68). -/

namespace Sys2Proof.Machine

/-! ## What an instant leaves alone -/

theorem State.report_untouched (s : State) (f : Flag) (d : Byte) : (s.report f d).untouched = s.untouched := by
  obtain ⟨ns, fl, lf, same, -⟩ := s.report_spec f d
  rw [same, State.withNotices_untouched]

/-- The state but for what an instant's stations and its picks can change. -/
def State.aside (s : State) : State := { s.untouched with pickQueue := [] }

theorem State.aside_of_untouched {s t : State} (same : s.untouched = t.untouched) : s.aside = t.aside := by
  rw [State.aside, State.aside, same]

theorem State.postPick_aside (s : State) (p : Pick) : (s.postPick p).aside = s.aside := by
  unfold State.postPick
  split_ifs
  · rfl
  · exact State.aside_of_untouched (s.report_untouched _ _)

/-- R60, R68: outside what its stations and its picks can change, an instant changes the state as it changes the detector
bank. -/
theorem State.takeWhole_aside (s : State) (n : Instant) :
    (s.takeWhole n).aside = ((s.withoutInstant n).bankInstant n).aside := by
  rw [State.takeWhole_bankFirst]
  refine (foldl_keeps State.aside State.postPick_aside (s.picksOf n) _).trans ?_
  exact State.aside_of_untouched (foldl_keeps State.untouched (State.stationEffects_untouched n _ _) _ _)

theorem State.bankInstant_ports (s : State) (n : Instant) : (s.bankInstant n).ports = s.ports := by
  unfold State.bankInstant
  split_ifs <;> rfl

/-- R59: an instant taken leaves the input buffer of its line. -/
theorem State.takeWhole_ports (s : State) (n : Instant) : (s.takeWhole n).ports = (s.withoutInstant n).ports :=
  (congrArg State.ports (s.takeWhole_aside n)).trans (State.bankInstant_ports _ n)

theorem State.takeWhole_port (s : State) (n : Instant) :
    (s.takeWhole n).port n.line = { s.port n.line with buffer := afterTake (s.port n.line).buffer } := by
  rw [State.port, State.takeWhole_ports]
  exact s.setPort_port_same _ _

theorem State.takeWhole_port_other (s : State) (n : Instant) {l : Line} (other : l ≠ n.line) :
    (s.takeWhole n).port l = s.port l := by
  rw [State.port, State.takeWhole_ports]
  exact s.setPort_port_other _ other

/-! ## Which instant is taken (R12, R59) -/

theorem State.offered_eq (s : State) (l : Line) : s.offered l =
    if (s.bankLine l).leaves = 0 then (s.port l).buffer.head?.map (fun e => e.nextInstant l) else none := rfl

theorem State.offered_of_empty {s : State} {l : Line} (empty : (s.port l).buffer = []) : s.offered l = none := by
  rw [State.offered_eq, empty]
  exact ite_self _

theorem State.offered_of_cons {s : State} {l : Line} {e : InputEntry} {rest : List InputEntry}
    (quiet : (s.bankLine l).leaves = 0) (buffer : (s.port l).buffer = e :: rest) :
    s.offered l = some (e.nextInstant l) := by
  rw [State.offered_eq, if_pos quiet, buffer]
  rfl

theorem State.chosen_eq (s : State) : s.chosen =
    match s.offered .a, s.offered .b with
    | some x, some y => some (if precedes y.index x.index then y else x)
    | some x, none => some x
    | none, y => y := by
  unfold State.chosen
  cases s.offered .a with
  | none => cases s.offered .b <;> rfl
  | some x =>
    cases s.offered .b with
    | none => rfl
    | some y => exact (apply_ite some _ _ _).symm

theorem execTakeInstant_of_chosen {s : State} {n : Instant} (released : s.pins.rstn = true) (chosen : s.chosen = some n) :
    execTakeInstant s = .next (s.takeWhole n) := by
  rw [execTakeInstant, State.whileReleased_of_released released, chosen]

theorem execTakeInstant_of_none {s : State} (released : s.pins.rstn = true) (none : s.chosen = none) :
    execTakeInstant s = .next s := by
  rw [execTakeInstant, State.whileReleased_of_released released, none]

/-- Log 4: a row that names the transition that the chosen instant makes at the station takes that instant. -/
theorem execTransition_of_chosen {s : State} {n : Instant} {i : Station} {t : Transition}
    (released : s.pins.rstn = true) (chosen : s.chosen = some n) (mine : lineOf i = n.line)
    (makes : (s.flowOf n i).transition = t) : execTransition i.val t s = .next (s.takeWhole n) := by
  have taken : s.takeWith i t = s.takeWhole n := by
    simp only [State.takeWith, chosen]
    exact if_pos ⟨mine, makes⟩
  rw [execTransition, dif_pos i.isLt, State.whileReleased_of_released released]
  exact congrArg _ taken

/-- Settles O19: the offers of the two lines decide, and each row takes the chosen instant. -/
theorem earlierInstantTakenFirst : Obligations.EarlierInstantTakenFirst := by
  refine ⟨fun e l => rfl, fun n i => ?_, fun i => rfl, fun s n e rest buffer => ?_, fun s => s.chosen_eq,
    fun s released => ?_, fun s released quietA quietB => ⟨fun emptyA emptyB => ?_, fun e rest a emptyB => ?_,
      fun e rest emptyA b => ?_, fun e rest e' rest' a b => ?_, fun e => rfl, fun n i chosen mine =>
        ⟨execTransition_of_chosen released chosen mine, execTransition_of_chosen released chosen mine,
          execTransition_of_chosen released chosen mine, execTransition_of_chosen released chosen mine⟩⟩⟩
  · unfold Instant.slot
    cases n.map <;> rfl
  · rw [State.takeWhole_port, buffer]
    rfl
  · exact State.whileReleased_of_released released _
  · refine execTakeInstant_of_none released ?_
    rw [State.chosen_eq, State.offered_of_empty emptyA, State.offered_of_empty emptyB]
  · refine execTakeInstant_of_chosen released ?_
    rw [State.chosen_eq, State.offered_of_cons quietA a, State.offered_of_empty emptyB]
  · refine execTakeInstant_of_chosen released ?_
    rw [State.chosen_eq, State.offered_of_empty emptyA, State.offered_of_cons quietB b]
  · refine execTakeInstant_of_chosen released ?_
    rw [State.chosen_eq, State.offered_of_cons quietA a, State.offered_of_cons quietB b]
    rfl

end Sys2Proof.Machine
end

section
/-! PROOFS. The requests, the capture engine and the pick queue after an instant (R24, R60, R70, R116). -/

namespace Sys2Proof.Machine

/-! ## What the requests and the entry events do not read -/

/-- The state with other line ports, another detector bank, another sample memory and other reports on their way. -/
def State.withAside (s : State) (ports : PerLine LinePort) (b : DetectorBank) (m : SampleMemory)
    (rs : List SwitchReport) : State :=
  { s with ports := ports, bank := b, mem := m, ctrl := { s.ctrl with reports := rs } }

section WithAside
variable (s : State) (ports : PerLine LinePort) (b : DetectorBank) (m : SampleMemory) (rs : List SwitchReport)

theorem State.offerNotice_withAside (n : Notice) :
    (s.withAside ports b m rs).offerNotice n = (s.offerNotice n).withAside ports b m rs := by
  unfold State.offerNotice
  split_ifs with h h' h'
  · rfl
  · exact absurd h h'
  · exact absurd h' h
  · rfl

theorem State.noticeLost_withAside (cls : NoticeClass) :
    (s.withAside ports b m rs).noticeLost cls = (s.noticeLost cls).withAside ports b m rs := by
  unfold State.noticeLost
  split_ifs with h h' h'
  · rfl
  · exact absurd h h'
  · exact absurd h' h
  · rfl

theorem State.request_withAside (n : Notice) :
    (s.withAside ports b m rs).request n = (s.request n).withAside ports b m rs := by
  have dropped : (s.withAside ports b m rs).noticeDropped n = s.noticeDropped n := rfl
  rw [State.request, State.request, dropped]
  split_ifs
  · exact s.noticeLost_withAside ports b m rs n.cls
  · exact s.offerNotice_withAside ports b m rs n

theorem State.judgeFault_withAside (n : Notice) :
    (s.withAside ports b m rs).judgeFault n = (s.judgeFault n).withAside ports b m rs := by
  have dropped : (s.withAside ports b m rs).noticeDropped n = s.noticeDropped n := rfl
  rw [State.judgeFault, State.judgeFault, dropped]
  split_ifs
  · rfl
  · exact s.offerNotice_withAside ports b m rs n

theorem State.lostFaultsArrive_withAside :
    (s.withAside ports b m rs).lostFaultsArrive = s.lostFaultsArrive.withAside ports b m rs :=
  List.foldl_hom (f := fun t : State => t.withAside ports b m rs) (l := s.ctrl.lostFaults)
    (init := { s with ctrl := { s.ctrl with lostFaults := [] } })
    fun t detail => State.judgeFault_withAside t ports b m rs (.flagRaised .noticeLost detail)

theorem State.report_withAside (f : Flag) (d : Byte) :
    (s.withAside ports b m rs).report f d = (s.report f d).withAside ports b m rs := by
  unfold State.report
  split_ifs with h h' h'
  · rfl
  · exact absurd h h'
  · exact absurd h' h
  · rw [show (s.withAside ports b m rs).setFlag f = (s.setFlag f).withAside ports b m rs from rfl,
      State.lostFaultsArrive_withAside, State.judgeFault_withAside]

theorem State.entryEvent_withAside (p : Fin 32) (st : Station) (f : StationEntry → StationEntry) :
    (s.withAside ports b m rs).entryEvent p st f = (s.entryEvent p st f).withAside ports b m rs := by
  have record : (s.withAside ports b m rs).record p = s.record p := rfl
  unfold State.entryEvent
  rw [record]
  split
  · rfl
  · split
    · rfl
    · dsimp only
      split_ifs
      · exact State.request_withAside ((s.setRecord p _).returnBlocks _) ports b m rs _
      · rfl

theorem State.postPick_withAside (p : Pick) :
    (s.withAside ports b m rs).postPick p = (s.postPick p).withAside ports b m rs := by
  unfold State.postPick
  split_ifs with h h' h'
  · rfl
  · exact absurd h h'
  · exact absurd h' h
  · exact s.report_withAside ports b m rs _ _

end WithAside

/-- Two states that differ in their line ports, detector banks, sample memories and reports on their way at most. -/
def State.SameEngine (u v : State) : Prop := ∃ ports b m rs, v = u.withAside ports b m rs

theorem State.SameEngine.fold {α : Type} {f g : State → α → State}
    (step : ∀ u v a, u.SameEngine v → (f u a).SameEngine (g v a)) :
    ∀ (as : List α) (u v : State), u.SameEngine v → (as.foldl f u).SameEngine (as.foldl g v)
  | [], _, _, same => same
  | a :: as, u, v, same => State.SameEngine.fold step as (f u a) (g v a) (step u v a same)

/-! ## The requests and entry events of a station's part (R24, R116) -/

/-- R24: the STATION request of a station's part of an instant. -/
def State.confirmedBy (s : State) (n : Instant) (u : State) (i : Station) : State :=
  match n.slot i with
  | none => u
  | some d =>
    if (s.station i).confirmed ≠ some (readStatusCode d.status) ∧
        (s.station i).candidate = some (readStatusCode d.status) then
      u.request (.statusChange i (readStatusCode d.status) (s.station i).confirmed n.index)
    else u

/-- R116: the direct write of an instant at one place, as an event at the station's entry. -/
def State.directEvent (n : Instant) (i : Station) (u : State) (p : Fin 32) : State :=
  match u.record p with
  | none => u
  | some r =>
    match r.capture, r.entry i with
    | some c, some e =>
      if c.directContains e n.index = true ∧ e.directDone = false then
        u.entryEvent p i fun x =>
          { x with
            directCount := x.directCount + 1
            filledCount := x.filledCount + (if (n.slot i).isNone then 1 else 0)
            testData := x.testData || n.test, directDone := decide (n.index = c.stop) }
      else u
    | _, _ => u

/-- R24, R116: the requests and entry events of a station's part. -/
def State.stationEvents (s : State) (n : Instant) (u : State) (i : Station) : State :=
  (List.finRange 32).foldl (State.directEvent n i) (s.confirmedBy n u i)

theorem State.confirmedBy_eq (s : State) (n : Instant) (u : State) (i : Station) :
    s.confirmedBy n u i = u.requestAll ((s.flowOf n i).changeNotice n i).toList := by
  have change : (s.flowOf n i).confirmed = codeChange (s.station i) (receiveSlot (n.slot i) (s.station i)) := rfl
  unfold State.confirmedBy StationFlow.changeNotice
  rw [change]
  cases n.slot i with
  | none =>
    rw [receiveSlot_absent, codeChange_self]
    rfl
  | some d =>
    rw [receiveSlot_present, codeChange_confirmCode]
    dsimp only
    split_ifs <;> rfl

theorem writtenPlace_filled (slot : Option SlotData) (x : StationState) : (writtenPlace slot x).filled = slot.isNone := by
  cases slot <;> rfl

theorem directStep_slot (n : Instant) (i : Station) (stop : Index) (x : StationState) (e : StationEntry) :
    directStep n.index stop n.test (writtenPlace (n.slot i) x).filled e =
      { e with
        directCount := e.directCount + 1
        filledCount := e.filledCount + (if (n.slot i).isNone then 1 else 0)
        testData := e.testData || n.test, directDone := decide (n.index = stop) } := by
  rw [writtenPlace_filled]
  cases n.slot i <;> rfl

theorem State.requestAll_withAside (s : State) (ports : PerLine LinePort) (b : DetectorBank) (m : SampleMemory)
    (rs : List SwitchReport) (xs : List Notice) :
    (s.withAside ports b m rs).requestAll xs = (s.requestAll xs).withAside ports b m rs :=
  List.foldl_hom (f := fun t : State => t.withAside ports b m rs) fun t x => State.request_withAside t ports b m rs x

/-- R116: a direct write is its event at the entry, outside the sample memory. -/
theorem State.SameEngine.directWrite (n : Instant) (i : Station) (x : StationState) (u v : State) (p : Fin 32)
    (same : u.SameEngine v) :
    (u.directEvent n i p).SameEngine (v.directWriteAt n i (writtenPlace (n.slot i) x) p) := by
  obtain ⟨ports, b, m, rs, rfl⟩ := same
  have record : (u.withAside ports b m rs).record p = u.record p := rfl
  unfold State.directEvent State.directWriteAt
  rw [record]
  cases u.record p with
  | none => exact ⟨ports, b, m, rs, rfl⟩
  | some r =>
    dsimp only
    cases r.capture with
    | none => exact ⟨ports, b, m, rs, rfl⟩
    | some c =>
      cases r.entry i with
      | none => exact ⟨ports, b, m, rs, rfl⟩
      | some e =>
        dsimp only
        simp only [Bool.and_eq_true, Bool.not_eq_true']
        by_cases writes : c.directContains e n.index = true ∧ e.directDone = false
        · rw [if_pos writes, if_pos writes]
          refine ⟨ports, b, m.writeChain e.chain (c.offset n.index) (writtenPlace (n.slot i) x), rs, ?_⟩
          rw [← State.entryEvent_withAside]
          exact congrArg _ (funext fun y => directStep_slot n i c.stop x y)
        · rw [if_neg writes, if_neg writes]
          exact ⟨ports, b, m, rs, rfl⟩

theorem State.SameEngine.station (s : State) (n : Instant) (u v : State) (i : Station) (same : u.SameEngine v) :
    (s.stationEvents n u i).SameEngine (v.stationEffects n s.station (s.flowOf n) i) := by
  rw [State.stationEffects_eq, State.stationEvents, State.confirmedBy_eq]
  refine State.SameEngine.fold (State.SameEngine.directWrite n i (s.station i)) allPlaces _ _ ?_
  obtain ⟨ports, b, m, rs, rfl⟩ := same
  rw [State.requestAll_withAside]
  exact ⟨ports, b, _, rs, rfl⟩

theorem State.SameEngine.pick (u v : State) (p : Pick) (same : u.SameEngine v) :
    (u.postPick p).SameEngine (v.postPick p) := by
  obtain ⟨ports, b, m, rs, rfl⟩ := same
  exact ⟨ports, b, m, rs, u.postPick_withAside ports b m rs p⟩

theorem State.begun_sameEngine (s : State) (n : Instant) : s.SameEngine (s.begun n) := by
  unfold State.begun
  dsimp only
  split_ifs
  · exact ⟨_, _, _, _, rfl⟩
  · exact ⟨_, s.bank, s.mem, s.ctrl.reports, rfl⟩

/-- R60: the requests, the picks and the records after an instant are those of its stations' events in turn. -/
theorem State.takeWhole_sameEngine (s : State) (n : Instant) :
    (((s.picksOf n).foldl State.postPick ((stationsOf n.line).foldl (s.stationEvents n) s)).postMark
      ⟨n.line, true, some n.index, false⟩).SameEngine (s.takeWhole n) := by
  have worked : ((stationsOf n.line).foldl (s.stationEvents n) s).SameEngine (s.worked n) :=
    State.SameEngine.fold (State.SameEngine.station s n) _ _ _ (s.begun_sameEngine n)
  have after : ((stationsOf n.line).foldl (s.stationEvents n) s).SameEngine
      (((s.worked n).mapStations fun i x => if lineOf i = n.line then (s.flowOf n i).after else x).setBankLine n.line
        (((s.worked n).bankLine n.line).took n)) := by
    obtain ⟨ports, b, m, rs, same⟩ := worked
    rw [same]
    exact ⟨ports, _, m, rs, rfl⟩
  obtain ⟨ports, b, m, rs, same⟩ := State.SameEngine.fold State.SameEngine.pick (s.picksOf n) _ _ after
  refine ⟨ports, b, m, rs, ?_⟩
  rw [State.takeWhole_eq]
  exact congrArg (fun t : State => t.postMark ⟨n.line, true, some n.index, false⟩) same

theorem switchesAt_eq (sw : Option SwitchPoint) (i : Index) : switchesAt sw i =
    (match sw with
    | none => false
    | some .immediate => true
    | some (.atIndex p) => decide (i = p) || precedes p i) := by
  cases sw with
  | none => rfl
  | some p => cases p <;> rfl

theorem State.takeWhole_bank (s : State) (n : Instant) :
    (s.takeWhole n).bank = ((s.withoutInstant n).bankInstant n).bank :=
  (congrArg State.bank (s.takeWhole_aside n)).trans rfl

/-- R61: the line's state after an instant. -/
theorem State.takeWhole_bankLine (s : State) (n : Instant) : (s.takeWhole n).bankLine n.line =
    { s.bankLine n.line with
      progress := some n.index, live := true, lastTest := n.test
      inUse := if switchesAt (s.bankLine n.line).switch n.index then .shadow else (s.bankLine n.line).inUse
      switch := if switchesAt (s.bankLine n.line).switch n.index then none else (s.bankLine n.line).switch } := by
  have line : (s.withoutInstant n).bankLine n.line = s.bankLine n.line := rfl
  rw [State.bankLine_of_bank (s.takeWhole_bank n), State.bankInstant_bankLine, line]
  split_ifs
  · rw [State.takeShadow, State.sendReport_bankLine, State.setBankLine_bankLine_same]
    rfl
  · rfl

theorem State.takeWhole_bankLine_other (s : State) (n : Instant) {l : Line} (other : l ≠ n.line) :
    (s.takeWhole n).bankLine l = s.bankLine l := by
  rw [State.bankLine_of_bank (s.takeWhole_bank n), State.bankInstant_bankLine_other _ _ other]
  rfl

theorem State.bankInstant_frame (s : State) (n : Instant) : s.bankInstant n =
    { s with bank := (s.bankInstant n).bank, ctrl := { s.ctrl with reports := (s.bankInstant n).ctrl.reports } } := by
  unfold State.bankInstant
  split_ifs <;> rfl

theorem State.bankInstant_reports (s : State) (n : Instant) : (s.bankInstant n).ctrl.reports = s.ctrl.reports ++
    if switchesAt (s.bankLine n.line).switch n.index then [⟨lineBlock n.line, false⟩] else [] := by
  unfold State.bankInstant
  split_ifs
  · rfl
  · exact (List.append_nil _).symm

theorem State.bankInstant_ctrl (s : State) (n : Instant) :
    (s.bankInstant n).ctrl = { s.ctrl with reports := (s.bankInstant n).ctrl.reports } := by
  unfold State.bankInstant
  split_ifs <;> rfl

/-- R61: outside the flags and the FAULT requests on their way, only a switch changes the controller's state: it is
reported. -/
theorem State.takeWhole_ctrl (s : State) (n : Instant) : (s.takeWhole n).ctrl =
    { s.ctrl with
      flags := (s.takeWhole n).ctrl.flags, lostFaults := (s.takeWhole n).ctrl.lostFaults
      reports := s.ctrl.reports ++
        (if switchesAt (s.bankLine n.line).switch n.index then [⟨lineBlock n.line, false⟩] else []) } := by
  have ctrl := congrArg State.ctrl (s.takeWhole_aside n)
  have same : { (s.takeWhole n).ctrl with flags := Flags.clear, lostFaults := [] } =
      { s.ctrl with
        flags := Flags.clear, lostFaults := []
        reports := s.ctrl.reports ++
          (if switchesAt (s.bankLine n.line).switch n.index then [⟨lineBlock n.line, false⟩] else []) } := by
    refine ctrl.trans ?_
    show { ((s.withoutInstant n).bankInstant n).ctrl with flags := Flags.clear, lostFaults := [] } = _
    rw [State.bankInstant_ctrl, State.bankInstant_reports]
    rfl
  exact congrArg (fun c : Controller => { c with
    flags := (s.takeWhole n).ctrl.flags, lostFaults := (s.takeWhole n).ctrl.lostFaults }) same

theorem State.flowOf_eq (s : State) (n : Instant) (i : Station) : s.flowOf n i =
    (if switchesAt (s.bankLine n.line).switch n.index then
      stationFlow n (some (s.bankOf (s.bankLine n.line).inUse)) s.ctrl.shadow i (s.station i)
    else stationFlow n none (s.bankOf (s.bankLine n.line).inUse) i (s.station i)) := by
  unfold State.flowOf State.leftBank State.instantBank
  split_ifs <;> rfl

/-- R68, R70: the pick queue, the requests and the records after an instant. -/
theorem State.takeWhole_posted (s : State) (n : Instant) :
    (s.takeWhole n).capture =
        ((s.picksOf n).foldl State.postPick ((stationsOf n.line).foldl (s.stationEvents n) s)).capture ∧
      (s.takeWhole n).trunk.notice =
        ((s.picksOf n).foldl State.postPick ((stationsOf n.line).foldl (s.stationEvents n) s)).trunk.notice ∧
      (s.takeWhole n).ctrl.flags =
        ((s.picksOf n).foldl State.postPick ((stationsOf n.line).foldl (s.stationEvents n) s)).ctrl.flags ∧
      (s.takeWhole n).ctrl.lostFaults =
        ((s.picksOf n).foldl State.postPick ((stationsOf n.line).foldl (s.stationEvents n) s)).ctrl.lostFaults := by
  obtain ⟨ports, b, m, rs, same⟩ := s.takeWhole_sameEngine n
  rw [same]
  exact ⟨rfl, rfl, rfl, rfl⟩

/-- Settles O20: the detector bank from its own rules, what the instant leaves alone, and the requests, picks and
records as the events of the stations in turn. -/
theorem instantActsOnItsLineOnly : Obligations.InstantActsOnItsLineOnly := by
  intro s n line switches old
  have decides : switchesAt (s.bankLine n.line).switch n.index = switches := switchesAt_eq _ _
  have apart := (s.takeWhole_aside n).trans (congrArg State.aside (State.bankInstant_frame _ n))
  rw [← decides]
  refine ⟨fun i _ => s.flowOf_eq n i, fun i mine => ?_, fun i other => ?_, s.takeWhole_bankLine n, s.takeWhole_port n,
    fun l other => ⟨s.takeWhole_bankLine_other n other, s.takeWhole_port_other n other⟩,
    ⟨stationsOf n.line, fun i => mem_stationsOf _ i, stationsOf_pairwise n.line, s.takeWhole_pickQueue n,
      s.takeWhole_posted n⟩, ?_, ?_, ?_, ?_, ?_, ?_, ?_⟩
  · rw [State.takeWhole_station, if_pos mine]
  · rw [State.takeWhole_station, if_neg other]
  · exact (congrArg State.pins apart).trans rfl
  · exact (congrArg State.unitAddress apart).trans rfl
  · exact (congrArg State.assoc apart).trans rfl
  · exact (congrArg State.channel apart).trans rfl
  · exact (congrArg State.readout apart).trans rfl
  · exact (congrArg (fun u : State => { u.trunk with notice := (s.takeWhole n).trunk.notice }) apart).trans rfl
  · rw [s.takeWhole_ctrl n]
    cases n.line <;> rfl

end Sys2Proof.Machine
end

section
/-! PROOFS. The detector: its transitions, its averages, and its activity (R37 to R53, R62). -/

namespace Sys2Proof.Machine

/-! ## The transition of each state (R49 to R53) -/

section Transitions
variable {inp : DetectorInput} {x : StationState}

theorem transitionStep_warmup (state : x.det = .warmup) : transitionStep inp x =
    if 2 ^ inp.set.l ≤ x.warm then ⟨{ x with det := .armed, detection := none }, .warmupEnd, none⟩
    else ⟨x, .warming, none⟩ := by simp only [transitionStep, state]

theorem transitionStep_armed (state : x.det = .armed) : transitionStep inp x =
    if onTest x.sta inp.set.rOn (effectiveLta x.lta inp.set.f) then
      onsetStep inp (ratio x.sta (effectiveLta x.lta inp.set.f)) x
    else ⟨x, .stayArmed, none⟩ := by simp only [transitionStep, state]

theorem transitionStep_pending (state : x.det = .pending) : transitionStep inp x =
    pendingStep inp (onTest x.sta inp.set.rOn (effectiveLta x.lta inp.set.f))
      (ratio x.sta (effectiveLta x.lta inp.set.f)) x := by simp only [transitionStep, state]

theorem transitionStep_on (state : x.det = .on) : transitionStep inp x =
    onStep inp (offTest x.sta inp.set.rOff (effectiveLta x.lta inp.set.f)) x := by simp only [transitionStep, state]

theorem transitionStep_hold (state : x.det = .hold) : transitionStep inp x = holdStep x := by
  simp only [transitionStep, state]

theorem onsetStep_debounced {r : Nat} (debounce : 0 < inp.set.d) : onsetStep inp r x =
    ⟨{ x with
        det := .pending, debounce := inp.set.d
        detection := some ⟨inp.index, r, clippedNow x, inp.held⟩ }, .onset, none⟩ :=
  if_neg (Nat.ne_of_gt debounce)

theorem onsetStep_at_once {r : Nat} (none : inp.set.d = 0) : onsetStep inp r x =
    ⟨{ x with det := .on, onCount := 0, detection := Option.none }, .onsetPick,
      some (makePick inp ⟨inp.index, r, clippedNow x, inp.held⟩)⟩ := if_pos none

theorem pendingStep_failed {r : Nat} : pendingStep inp false r x =
    ⟨{ x with det := .armed, detection := none }, .debounceFailed, none⟩ := rfl

/-- R51: a pending detection with the marks and the ratio of one more instant. -/
def Detection.grown (d : Detection) (inp : DetectorInput) (r : Nat) (x : StationState) : Detection :=
  ⟨d.onset, max d.peak r, d.clipped || clippedNow x, d.filled || inp.held⟩

theorem pendingStep_met {r : Nat} {d : Detection} (held : x.detection = some d) : pendingStep inp true r x =
    if x.debounce - 1 = 0 then
      ⟨{ x with det := .on, debounce := 0, onCount := 0, detection := none }, .debounceComplete,
        some (makePick inp (d.grown inp r x))⟩
    else ⟨{ x with debounce := x.debounce - 1, detection := some (d.grown inp r x) }, .debouncing, none⟩ := by
  rw [pendingStep, held]
  rfl

/-- R52: the state after ON. -/
theorem leaveOn_eq (h : Nat) (x : StationState) : leaveOn h x =
    { x with det := if h = 0 then .armed else .hold, hold := if h = 0 then x.hold else h } := by
  unfold leaveOn
  split_ifs <;> rfl

end Transitions

/-- Settles O24: the row of each state, with its tests decided. -/
theorem detectorTransitions : Obligations.DetectorTransitions := by
  intro inp x l r onMet offMet left began
  have met (h : onMet) : onTest x.sta inp.set.rOn (effectiveLta x.lta inp.set.f) = true := decide_eq_true h
  have unmet (h : ¬ onMet) : onTest x.sta inp.set.rOn (effectiveLta x.lta inp.set.f) = false := decide_eq_false h
  have off (h : offMet) : offTest x.sta inp.set.rOff (effectiveLta x.lta inp.set.f) = true := decide_eq_true h
  have going (h : ¬ offMet) : offTest x.sta inp.set.rOff (effectiveLta x.lta inp.set.f) = false := decide_eq_false h
  refine ⟨transitionStep_warmup, fun state h => ?_, fun state h debounce => ?_, fun state h debounce => ?_,
    fun state h => ?_, fun d state h held => ⟨fun more => ?_, fun last => ?_⟩, fun state h => ?_,
    fun state h limit reached => ?_, fun state h limit => ?_, fun state more => ?_, fun state last => ?_⟩
  · rw [transitionStep_armed state, unmet h, if_neg Bool.false_ne_true]
  · rw [transitionStep_armed state, met h, if_pos rfl, onsetStep_debounced debounce]
    rfl
  · rw [transitionStep_armed state, met h, if_pos rfl, onsetStep_at_once debounce]
    rfl
  · rw [transitionStep_pending state, unmet h, pendingStep_failed]
  · rw [transitionStep_pending state, met h, pendingStep_met held, if_neg (by omega)]
    rfl
  · rw [transitionStep_pending state, met h, pendingStep_met held, if_pos (by omega)]
    rfl
  · rw [transitionStep_on state, off h]
    exact congrArg (fun y => (⟨y, .offTestMet, none⟩ : DetectorResult)) (leaveOn_eq inp.set.h _)
  · rw [transitionStep_on state, going h, onStep, if_neg Bool.false_ne_true, if_pos ⟨limit, reached⟩]
    exact congrArg (fun y => (⟨y, .maxDuration, none⟩ : DetectorResult)) (leaveOn_eq inp.set.h _)
  · have open_ : ¬ (0 < inp.set.m ∧ inp.set.m ≤ min (x.onCount + 1) Config.maxRatio) := by
      have top : Config.maxRatio = 65535 := rfl
      rw [top]
      omega
    rw [transitionStep_on state, going h, onStep, if_neg Bool.false_ne_true, if_neg open_]
    rfl
  · rw [transitionStep_hold state, holdStep, if_neg (by omega)]
  · rw [transitionStep_hold state, holdStep, if_pos (by omega)]

/-! ## Averages (R41, R42) -/

theorem averageStep_cast (acc e shift : Nat) :
    ((averageStep acc e shift : Nat) : Int) = (acc : Int) + ((e : Int) - (acc : Int)) / 2 ^ shift := by
  have positive : (0 : Int) < 2 ^ shift := by positivity
  have least : -(acc : Int) ≤ ((e : Int) - acc) / 2 ^ shift := by
    rw [Int.le_ediv_iff_mul_le positive]
    have one : (1 : Int) ≤ 2 ^ shift := positive
    nlinarith
  exact Int.toNat_of_nonneg (by omega)

theorem averageStep_zero (acc e : Nat) : averageStep acc e 0 = e := by
  simp [averageStep]

theorem ltaStep_eq (t : Transition) (e b : Nat) (x : StationState) : ltaStep t e b x =
    { x with
      lta := (if t = .maxDuration then x.sta
        else if t = .onset ∨ t = .onsetPick ∨ t = .debouncing ∨ t = .debounceComplete ∨ t = .stayOn ∨ t = .noRun then
          x.lta
        else averageStep x.lta e b) } := by
  cases t <;> simp [ltaStep]

/-- R41: the shift at warm-up instant n. -/
theorem warmupShift_spec (full : Nat) {n : Nat} (positive : 0 < n) :
    warmupShift full n ≤ full ∧ 2 ^ warmupShift full n ≤ n ∧
      (warmupShift full n = full ∨ n < 2 ^ (warmupShift full n + 1)) := by
  have below : 2 ^ warmupShift full n ≤ 2 ^ Nat.log2 n := Nat.pow_le_pow_right (by decide) (Nat.min_le_right _ _)
  refine ⟨Nat.min_le_left _ _, below.trans (Nat.log2_self_le positive.ne'), ?_⟩
  rcases Nat.le_total full (Nat.log2 n) with small | large
  · exact .inl (Nat.min_eq_left small)
  · refine .inr ?_
    rw [warmupShift, Nat.min_eq_right large]
    exact Nat.lt_log2_self

/-! ## The detector's work (R37 to R41) -/

/-- R41: the warm-up count of the instant. -/
def StationState.warmCount (x : StationState) : Nat := if x.det = .warmup then x.warm + 1 else x.warm

/-- R41: the high-pass state that a component is filtered from, seeded at the first warm-up instant. -/
def StationState.seeded (x : StationState) (v : Sample) (hp : HighPass) : HighPass :=
  if x.det = .warmup ∧ x.warmCount = 1 then ⟨v.toInt, 0⟩ else hp

/-- R39: the high-pass state of a component after the instant. -/
def DetectorInput.filtered (inp : DetectorInput) (x : StationState) (r : Role) (v : Sample) (hp : HighPass) : HighPass :=
  if inp.cfg.mode.uses r then ⟨v.toInt, highPassValue inp.set.k v.toInt (x.seeded v hp)⟩ else hp

/-- R40: the energy of a component. -/
def DetectorInput.energy (inp : DetectorInput) (x : StationState) (r : Role) (v : Sample) (hp : HighPass) : Nat :=
  if inp.cfg.mode.uses r then min ((highPassValue inp.set.k v.toInt (x.seeded v hp)).natAbs ^ 2 / 2 ^ inp.set.g) 1073741823
  else 0

/-- R38 to R40: one component at one instant. -/
theorem componentStep_eq (inp : DetectorInput) (x : StationState) (r : Role) (v : Sample) (hp : HighPass) :
    componentStep (inp.cfg.mode.uses r) (decide (x.det = .warmup) && decide (x.warmCount = 1)) inp.set.k inp.set.g v hp =
      (inp.filtered x r v hp, inp.energy x r v hp) := by
  have seed : (decide (x.det = .warmup) && decide (x.warmCount = 1)) = decide (x.det = .warmup ∧ x.warmCount = 1) :=
    (Bool.decide_and _ _).symm
  unfold componentStep DetectorInput.filtered DetectorInput.energy StationState.seeded
  rw [seed, Nat.pow_two]
  simp only [decide_eq_true_eq]
  split_ifs <;> rfl

/-- R37: the sum of the energies, 256 times. -/
def DetectorInput.sum (inp : DetectorInput) (x : StationState) : Nat :=
  256 * (inp.energy x inp.cfg.role1 x.held.c1 x.hp1 + inp.energy x inp.cfg.role2 x.held.c2 x.hp2 +
    inp.energy x inp.cfg.role3 x.held.c3 x.hp3)

/-- R41: a shift of the set, and the smaller one while warming up. -/
def StationState.shift (x : StationState) (full : Nat) : Nat :=
  if x.det = .warmup then warmupShift full x.warmCount else full

/-- R37: the station after steps 3 to 5. -/
def DetectorInput.worked (inp : DetectorInput) (x : StationState) : StationState :=
  { x with
    warm := x.warmCount
    hp1 := inp.filtered x inp.cfg.role1 x.held.c1 x.hp1
    hp2 := inp.filtered x inp.cfg.role2 x.held.c2 x.hp2
    hp3 := inp.filtered x inp.cfg.role3 x.held.c3 x.hp3
    sta := averageStep x.sta (inp.sum x) (x.shift inp.set.s) }

theorem runArithmetic_eq (inp : DetectorInput) (x : StationState) :
    runArithmetic inp x = (inp.worked x, inp.sum x) := by
  have count : (if decide (x.det = .warmup) = true then x.warm + 1 else x.warm) = x.warmCount := by
    simp only [decide_eq_true_eq, StationState.warmCount]
  have shift : (if decide (x.det = .warmup) = true then warmupShift inp.set.s x.warmCount else inp.set.s) =
      x.shift inp.set.s := by simp only [decide_eq_true_eq, StationState.shift]
  unfold runArithmetic
  dsimp only
  rw [count, shift, componentStep_eq, componentStep_eq, componentStep_eq]
  rfl

/-- Steps 2 to 7 of R37 of a detector at work. -/
theorem detectorWork_of_working {inp : DetectorInput} {x : StationState} (on : x.det ≠ .off)
    (going : x.det ≠ .suspended) : detectorWork inp x =
      { transitionStep inp (inp.worked x) with
        after := ltaStep (transitionStep inp (inp.worked x)).transition (inp.sum x) (x.shift inp.set.l)
          (transitionStep inp (inp.worked x)).after } := by
  rw [detectorWork, if_neg (not_or.mpr ⟨on, going⟩), runArithmetic_eq]
  rfl

/-- Settles O26: the averages by the bounds of floor division, and the work of an instant component by component. -/
theorem averagesFollowTheEnergy : Obligations.AveragesFollowTheEnergy := by
  refine ⟨fun acc e shift => ?_, ltaStep_eq, fun full n positive => warmupShift_spec full positive,
    fun inp x on going => detectorWork_of_working on going⟩
  have between := averageStep_between acc e shift
  exact ⟨averageStep_cast acc e shift, fun _ => by omega, fun _ => by omega, averageStep_zero acc e⟩

/-! ## Activity (R22, R47, R48, R62) -/

/-- R22: OK and CLIPPED alone allow detection. -/
theorem detectionAllowed_iff (confirmed : Option StatusCode) :
    detectionAllowed confirmed = true ↔ confirmed = some 0 ∨ confirmed = some 1 := by
  cases confirmed with
  | none => exact ⟨nofun, nofun⟩
  | some c =>
    simp only [detectionAllowed, decide_eq_true_eq, Option.some.injEq, Fin.ext_iff]
    have zero : ((0 : StatusCode) : Nat) = 0 := rfl
    have one : ((1 : StatusCode) : Nat) = 1 := rfl
    omega

theorem conditionsHold_live_iff (test : Bool) (confirmed : Option StatusCode) :
    conditionsHold true test confirmed = true ↔ test = false ∧ (confirmed = some 0 ∨ confirmed = some 1) := by
  rw [conditionsHold_iff, detectionAllowed_iff]
  exact and_iff_right rfl

section Judged
variable {x : StationState}

theorem judgeActivity_of_off (ok : Bool) (off : x.det = .off) : judgeActivity ok x = x := by
  simp only [judgeActivity, off]

theorem judgeActivity_of_suspended (ok : Bool) (state : x.det = .suspended) :
    judgeActivity ok x = if ok then x.enterWarmup else x := by simp only [judgeActivity, state]

theorem judgeActivity_of_working (ok : Bool) (on : x.det ≠ .off) (going : x.det ≠ .suspended) :
    judgeActivity ok x = if ok then x else x.enterSuspended := by
  unfold judgeActivity
  cases state : x.det with
  | off => exact absurd state on
  | suspended => exact absurd state going
  | warmup | armed | pending | on | hold => rfl

/-- R48: a warm-up begun at this instant goes on: 64 instants at least are needed. -/
theorem detectorWork_begun (inp : DetectorInput) (x : StationState) (long : 6 ≤ inp.set.l) :
    (detectorWork inp x.enterWarmup).after.det = .warmup ∧ (detectorWork inp x.enterWarmup).after.warm = 1 ∧
      (detectorWork inp x.enterWarmup).after.detection = none ∧ (detectorWork inp x.enterWarmup).pick = none := by
  have warming : (inp.worked x.enterWarmup).det = .warmup := rfl
  have first : (inp.worked x.enterWarmup).warm = 1 := rfl
  have short : ¬ 2 ^ inp.set.l ≤ (inp.worked x.enterWarmup).warm := by
    have many : 2 ^ 6 ≤ 2 ^ inp.set.l := Nat.pow_le_pow_right (by decide) long
    omega
  have step : transitionStep inp (inp.worked x.enterWarmup) = ⟨inp.worked x.enterWarmup, .warming, none⟩ :=
    (transitionStep_warmup warming).trans (if_neg short)
  have working : detectorWork inp x.enterWarmup = _ := detectorWork_of_working (fun h => by cases h) (fun h => by cases h)
  rw [working, step]
  exact ⟨rfl, rfl, rfl, rfl⟩

end Judged

/-- What a station's detector reads at an instant (R38). -/
def Instant.input (n : Instant) (bank : Bank) (i : Station) : DetectorInput :=
  ⟨i, bank.station i, bank.detectorSet i, n.index, (n.slot i).isNone⟩

/-- R47 at an instant: the conditions of activity of a station whose status has been judged. -/
def Instant.conditions (n : Instant) (y : StationState) : Bool := conditionsHold true n.test y.confirmed

/-- The flow of a station whose detector, once its state has been judged, starts its work from `y`. -/
def Instant.flowFrom (n : Instant) (bank : Bank) (i : Station) (x y : StationState) : StationFlow :=
  ⟨(detectorWork (n.input bank i) y).after, codeChange x (receiveSlot (n.slot i) x),
    (detectorWork (n.input bank i) y).transition, (detectorWork (n.input bank i) y).pick⟩

/-- Steps 1, 2 and 4 of Table 2.7 without a switch. -/
theorem stationFlow_none (n : Instant) (bank : Bank) (i : Station) (x : StationState) :
    stationFlow n none bank i x = n.flowFrom bank i x
      (judgeActivity (n.conditions (receiveSlot (n.slot i) x)) (receiveSlot (n.slot i) x)) := rfl

/-- The same with a switch: the continuity comparison comes first (R62). -/
theorem stationFlow_some (n : Instant) (old new : Bank) (i : Station) (x : StationState) :
    stationFlow n (some old) new i x = n.flowFrom new i x
      (judgeActivity (n.conditions (receiveSlot (n.slot i) x))
        (continuity old new i (n.conditions (receiveSlot (n.slot i) x)) (receiveSlot (n.slot i) x))) := rfl

theorem Instant.flowFrom_idle {n : Instant} {bank : Bank} {i : Station} {x y : StationState}
    (idle : y.det = .off ∨ y.det = .suspended) : n.flowFrom bank i x y =
      ⟨y, codeChange x (receiveSlot (n.slot i) x), .noRun, none⟩ := by
  rw [Instant.flowFrom, detectorWork_idle _ idle]

/-- R62: the continuity comparison by whether the station is enabled and whether its entry and set are the same. -/
theorem continuity_eq (old new : Bank) (i : Station) (ok : Bool) (x : StationState) : continuity old new i ok x =
    (if (new.station i).enable = false then x.enterOff
    else if old.station i = new.station i ∧ old.detectorSet i = new.detectorSet i then x
    else if ok then x.enterWarmup
    else x.enterSuspended) := by
  unfold continuity
  by_cases same : old.station i = new.station i ∧ old.detectorSet i = new.detectorSet i
  · have unchanged : ¬ (old.station i ≠ new.station i ∨ old.detectorSet i ≠ new.detectorSet i) :=
      fun h => h.elim (fun h => h same.1) fun h => h same.2
    simp only [if_neg unchanged, if_pos same, Bool.not_eq_true']
  · have changed : old.station i ≠ new.station i ∨ old.detectorSet i ≠ new.detectorSet i := not_and_or.mp same
    simp only [if_pos changed, if_neg same, Bool.not_eq_true']

theorem Instant.conditions_iff (n : Instant) (y : StationState) : n.conditions y = true ↔
    n.test = false ∧ (y.confirmed = some 0 ∨ y.confirmed = some 1) := conditionsHold_live_iff _ _

theorem Instant.conditions_eq_false {n : Instant} {y : StationState}
    (fails : ¬ (n.test = false ∧ (y.confirmed = some 0 ∨ y.confirmed = some 1))) : n.conditions y = false :=
  Bool.eq_false_iff.mpr fun ok => fails ((n.conditions_iff y).mp ok)

/-- R47, R48, R62 of a station without a switch. -/
theorem activityJudged_none (n : Instant) (bank : Bank) (i : Station) (x : StationState)  {y : StationState}
    (received : receiveSlot (n.slot i) x = y) :
    (x.det ≠ .off → x.det ≠ .suspended → n.conditions y = true → stationFlow n none bank i x = n.flowFrom bank i x y) ∧
    (x.det = .suspended → n.conditions y = true → stationFlow n none bank i x = n.flowFrom bank i x y.enterWarmup) ∧
    (x.det = .off → stationFlow n none bank i x = n.flowFrom bank i x y) ∧
    (x.det ≠ .off → n.conditions y = false → stationFlow n none bank i x = n.flowFrom bank i x
      { y with det := .suspended, detection := (if x.det = .suspended then x.detection else none) }) := by
  have det : y.det = x.det := received ▸ receiveSlot_det _ _
  have detection : y.detection = x.detection := by
    rw [← received]
    cases n.slot i with
    | none => rfl
    | some d =>
      simp only [receiveSlot, confirmCode]
      split_ifs <;> rfl
  rw [stationFlow_none, received]
  refine ⟨fun on going ok => ?_, fun state ok => ?_, fun off => ?_, fun on fails => ?_⟩
  · rw [judgeActivity_of_working _ (det ▸ on) (det ▸ going), ok, if_pos rfl]
  · rw [judgeActivity_of_suspended _ (det.trans state), ok, if_pos rfl]
  · rw [judgeActivity_of_off _ (det.trans off)]
  · rw [fails]
    by_cases state : x.det = .suspended
    · rw [judgeActivity_of_suspended _ (det.trans state), if_pos state, ← detection]
      have same : y = { y with det := .suspended } := by rw [← det.trans state]
      exact congrArg _ same
    · rw [judgeActivity_of_working _ (det ▸ on) (det ▸ state), if_neg state]
      rfl

/-- R62 of a station at a switch: what the comparison makes of it is not judged again. -/
theorem activityJudged_some (n : Instant) (old new : Bank) (i : Station) (x : StationState) {y : StationState}
    (received : receiveSlot (n.slot i) x = y) :
    ((new.station i).enable = false → stationFlow n (some old) new i x = n.flowFrom new i x y.enterOff) ∧
    ((new.station i).enable = true → old.station i = new.station i ∧ old.detectorSet i = new.detectorSet i →
      stationFlow n (some old) new i x = stationFlow n none new i x) ∧
    ((new.station i).enable = true → ¬ (old.station i = new.station i ∧ old.detectorSet i = new.detectorSet i) →
      stationFlow n (some old) new i x =
        n.flowFrom new i x (if n.conditions y then y.enterWarmup else y.enterSuspended)) := by
  rw [stationFlow_some, stationFlow_none, received, continuity_eq]
  refine ⟨fun disabled => ?_, fun enabled same => ?_, fun enabled other => ?_⟩
  · rw [if_pos disabled, judgeActivity_of_off _ rfl]
  · rw [if_neg (by rw [enabled]; decide), if_pos same]
  · rw [if_neg (by rw [enabled]; decide), if_neg other]
    cases n.conditions y with
    | true => rw [if_pos rfl, judgeActivity_of_working _ (fun h => by cases h) (fun h => by cases h), if_pos rfl]
    | false => rw [if_neg Bool.false_ne_true, judgeActivity_of_suspended _ rfl, if_neg Bool.false_ne_true]

/-- Settles O23: the conditions of activity of the station as its slot leaves it, without and with a switch. -/
theorem activityJudgedEachInstant : Obligations.ActivityJudgedEachInstant := by
  refine ⟨?_, ?_, continuity_eq⟩
  · intro n bank i x received allowed flow work
    have holds (h : allowed) : n.conditions received = true := (n.conditions_iff received).mpr h
    have fails (h : ¬ allowed) : n.conditions received = false := Instant.conditions_eq_false h
    obtain ⟨working, again, off, failing⟩ := activityJudged_none n bank i x (y := received) rfl
    have idle (state : x.det = .off) : received.det = .off := (receiveSlot_det _ _).trans state
    have same : flow.after.received = received.received := stationFlow_received n none bank i x
    refine ⟨rfl, fun on going h => ?_, fun state h => ?_, fun quiet => ?_, fun state => ?_, fun on h => ?_,
      fun state h long => ?_, StationState.confirmed_of_received same, StationState.held_of_received same⟩
    · rw [show flow = _ from working on going (holds h)]
      exact ⟨rfl, rfl, rfl⟩
    · rw [show flow = _ from again state (holds h)]
      exact ⟨rfl, rfl, rfl⟩
    · by_cases state : x.det = .off
      · rw [show flow = _ from off state, Instant.flowFrom_idle (.inl (idle state))]
      · rw [show flow = _ from failing state (fails (quiet.resolve_left state)), Instant.flowFrom_idle (.inr rfl)]
    · rw [show flow = _ from off state, Instant.flowFrom_idle (.inl (idle state))]
      exact ⟨rfl, rfl⟩
    · rw [show flow = _ from failing on (fails h), Instant.flowFrom_idle (.inr rfl)]
      exact ⟨rfl, rfl⟩
    · rw [show flow = _ from again state (holds h)]
      exact detectorWork_begun (n.input bank i) received long
  · intro n old new i x received allowed same flow
    obtain ⟨disabled, unchanged, changed⟩ := activityJudged_some n old new i x (y := received) rfl
    have begun (enabled : (new.station i).enable = true) (other : ¬ same) (h : allowed) :
        flow = n.flowFrom new i x received.enterWarmup :=
      (changed enabled other).trans (by rw [(n.conditions_iff received).mpr h, if_pos rfl])
    refine ⟨fun enabled other h => ?_, fun off => ?_, unchanged, fun enabled other h => ?_,
      fun enabled other h long => ?_⟩
    · rw [begun enabled other h]
      exact ⟨rfl, rfl, rfl⟩
    · rw [show flow = _ from disabled off, Instant.flowFrom_idle (.inl rfl)]
      exact ⟨rfl, rfl⟩
    · rw [show flow = _ from changed enabled other, Instant.conditions_eq_false h, if_neg Bool.false_ne_true,
        Instant.flowFrom_idle (.inr rfl)]
      exact ⟨rfl, rfl⟩
    · rw [begun enabled other h]
      exact detectorWork_begun (n.input new i) received long

end Sys2Proof.Machine
end

section
/-! PROOFS. The associator takes a PICK: joining, opening and the renumbering of open orders (chapters 5 and 6). -/

namespace Sys2Proof.Machine

/-! ## A LINE MARK posted (R69) -/

theorem coalesce_append {m : LineMark} {q q' : List QueueEntry} (found : coalesce m q = some q') :
    ∀ before : List QueueEntry, coalesce m (before ++ q) = some (before ++ q')
  | [] => found
  | e :: before => by simp [coalesce, coalesce_append found before]

/-- R69: the line's last entry, a LINE MARK, is its open mark. -/
theorem coalesce_lastMark {m old : LineMark} {after : List QueueEntry} (own : old.line = m.line)
    (others : ∀ e ∈ after, e.line ≠ m.line) :
    coalesce m (.mark old :: after) = some (.mark (m.over old) :: after) := by
  have none : coalesce m after = none := by
    match found : coalesce m after with
    | none => rfl
    | some q' =>
      obtain ⟨before, x, rest, rfl, ownx, -⟩ := coalesce_eq_some m after q' found
      exact absurd ownx (others (.mark x) (by simp))
  have noPick : after.any (QueueEntry.isPickOf m.line) = false :=
    List.any_eq_false.mpr fun e mem pick => others e mem (QueueEntry.line_of_isPickOf pick)
  simp only [coalesce, none, QueueEntry.isMarkOf, own, decide_true, noPick, Bool.not_false, Bool.and_self, if_true]
  rfl

/-- R69: a queue that does not end in a LINE MARK for the line gets the mark appended. -/
theorem placeMark_of_markEnds_false {q : List QueueEntry} {m : LineMark} (ends : markEnds q m.line = false) :
    placeMark q m = q ++ [.mark m] := by
  obtain ⟨before, old, after, rfl, own, last, -⟩ | ⟨-, placed⟩ := placeMark_cases q m
  · simp [markEnds, lastOf_append, lastOf_cons, last, QueueEntry.line, own, QueueEntry.isMarkOf] at ends
  · exact placed

/-- Settles O30: the line's last entry, when it is a LINE MARK, is the one that coalescing finds. -/
theorem lineMarkCoalesces : Obligations.LineMarkCoalesces := by
  intro q m
  refine ⟨?_, fun others => placeMark_of_markEnds_false ?_, ?_⟩
  · rintro before after old rfl own others
    rw [placeMark, coalesce_append (coalesce_lastMark own others)]
    rfl
  · rw [markEnds, (lastOf_eq_none_iff q m.line).mpr others]
    rfl
  · rintro before after p rfl own others
    refine placeMark_of_markEnds_false ?_
    rw [markEnds, lastOf_append, lastOf_cons, (lastOf_eq_none_iff after m.line).mpr others]
    simp [QueueEntry.line, own, QueueEntry.isMarkOf]

/-! ## Taking an entry (R71, R83, R92) -/

theorem State.takeable_eq {s : State} {e : QueueEntry} {rest : List QueueEntry} (queue : s.pickQueue = e :: rest)
    (room : s.channel.length + 17 ≤ 64) : s.takeable = some e := by
  refine (if_pos room).trans ?_
  rw [queue]
  rfl

theorem State.takeable_full {s : State} (full : 64 < s.channel.length + 17) : s.takeable = none :=
  if_neg (Nat.not_le.mpr full)

theorem State.dropEntry_eq {s : State} {e : QueueEntry} {rest : List QueueEntry} (queue : s.pickQueue = e :: rest) :
    s.dropEntry = { s with pickQueue := rest } := by
  rw [State.dropEntry, queue]
  rfl

theorem execAssociatorTakePick_taken {s : State} {p : Pick} {rest : List QueueEntry} (released : s.pins.rstn = true)
    (queue : s.pickQueue = .pick p :: rest) (room : s.channel.length + 17 ≤ 64) :
    exec .associatorTakePick s = .next (({ s with pickQueue := rest }.assocSwitchFor (.pick p)).handlePick p) := by
  show execAssociatorTakePick s = _
  rw [execAssociatorTakePick, State.whileReleased_of_released released, State.takeable_eq queue room,
    State.dropEntry_eq queue]

theorem execAssociatorTakeLineMark_taken {s : State} {m : LineMark} {rest : List QueueEntry}
    (released : s.pins.rstn = true) (queue : s.pickQueue = .mark m :: rest) (room : s.channel.length + 17 ≤ 64) :
    exec .associatorTakeLineMark s = .next (({ s with pickQueue := rest }.assocSwitchFor (.mark m)).handleMark m) := by
  show execAssociatorTakeLineMark s = _
  rw [execAssociatorTakeLineMark, State.whileReleased_of_released released, State.takeable_eq queue room,
    State.dropEntry_eq queue]

theorem State.assocSwitchFor_false {s : State} {e : QueueEntry} (stays : entrySwitches s.assoc.switch e = false) :
    s.assocSwitchFor e = s := if_neg (stays ▸ Bool.false_ne_true)

theorem State.assocSwitchFor_true {s : State} {e : QueueEntry} (switches : entrySwitches s.assoc.switch e = true) :
    s.assocSwitchFor e = s.assocSwitch := if_pos switches

/-- R83: a PICK taken that brings no switch about. -/
theorem execAssociatorTakePick_unswitched {s : State} {p : Pick} {rest : List QueueEntry}
    (released : s.pins.rstn = true) (queue : s.pickQueue = .pick p :: rest) (room : s.channel.length + 17 ≤ 64)
    (stays : entrySwitches s.assoc.switch (.pick p) = false) :
    exec .associatorTakePick s = .next ({ s with pickQueue := rest }.handlePick p) := by
  have unswitched : State.assocSwitchFor { s with pickQueue := rest } (.pick p) = { s with pickQueue := rest } :=
    State.assocSwitchFor_false stays
  rw [execAssociatorTakePick_taken released queue room, unswitched]

/-- R92: a LINE MARK taken that brings no switch about. -/
theorem execAssociatorTakeLineMark_unswitched {s : State} {m : LineMark} {rest : List QueueEntry}
    (released : s.pins.rstn = true) (queue : s.pickQueue = .mark m :: rest) (room : s.channel.length + 17 ≤ 64)
    (stays : entrySwitches s.assoc.switch (.mark m) = false) :
    exec .associatorTakeLineMark s = .next ({ s with pickQueue := rest }.handleMark m) := by
  have unswitched : State.assocSwitchFor { s with pickQueue := rest } (.mark m) = { s with pickQueue := rest } :=
    State.assocSwitchFor_false stays
  rw [execAssociatorTakeLineMark_taken released queue room, unswitched]

/-! ## Joining a candidate (R83, R85, R86, R90, R91, R98) -/

theorem State.handlePick_disabled {s : State} {p : Pick} (off : (s.assocBank.station p.station).enable = false) :
    s.handlePick p = s := by
  rw [State.handlePick, if_neg (off ▸ Bool.false_ne_true)]

/-- R85: the candidate of lowest open order among the ones that pass is the one found. -/
theorem lowestOrder_eq_some {slots : Vector (Option Candidate) 16} {test : Candidate → Bool} {k : Fin 16}
    {c : Candidate} (held : slots[k] = some c) (passes : test c = true)
    (lowest : ∀ (j : Fin 16) x, slots[j] = some x → test x = true → j ≠ k → c.order < x.order) :
    lowestOrder slots test = some (k, c) := by
  match found : lowestOrder slots test with
  | none =>
    rw [(lowestOrder_eq_none_iff slots test).mp found k c held] at passes
    cases passes
  | some (j, x) =>
    obtain ⟨heldx, passesx, below⟩ := lowestOrder_some found
    by_cases same : j = k
    · subst same
      rw [held] at heldx
      cases heldx
      rfl
    · exact absurd (below k c held passes) (Nat.not_le.mpr (lowest j x heldx passesx same))

theorem State.handlePick_joins {s : State} {p : Pick} {k : Fin 16} {c : Candidate}
    (on : (s.assocBank.station p.station).enable = true) (held : s.candidate k = some c)
    (admits : c.admits s.assocBank p.station p.onset = true)
    (lowest : ∀ j x, s.candidate j = some x → x.admits s.assocBank p.station p.onset = true → j ≠ k →
      c.order < x.order) : s.handlePick p = s.joinCandidate k c p := by
  rw [State.handlePick, if_pos on]
  rw [lowestOrder_eq_some (test := fun x => x.admits s.assocBank p.station p.onset) held admits lowest]

/-- R86: a join to a DECLARED candidate. -/
theorem State.joinCandidate_declared {s : State} {k : Fin 16} {c : Candidate} {p : Pick} (state : c.state = .declared) :
    s.joinCandidate k c p =
      s.setCandidate k (some ((c.join p (s.assocBank.station p.station).weight).extend s.assocBank.params)) := by
  rw [State.joinCandidate, state]

/-- R90: a join to an OPEN candidate declares it at its effective quorum. -/
theorem State.joinCandidate_opened {s : State} {k : Fin 16} {c : Candidate} {p : Pick} (state : c.state = .opened) :
    s.joinCandidate k c p =
      if c.quorum ≤ c.weight + (s.assocBank.station p.station).weight ∧ 2 ≤ (c.picks ++ [p]).length then
        (s.setCandidate k (some { c.join p (s.assocBank.station p.station).weight with state := .declared })).send
          (.declare (s.declareMessage k (c.join p (s.assocBank.station p.station).weight)))
      else s.setCandidate k (some (c.join p (s.assocBank.station p.station).weight)) := by
  rw [State.joinCandidate, state]
  rfl

/-- R98: the generation of a DECLARE is that of the bank in use. -/
theorem State.declareGeneration_eq (s : State) :
    s.declareGeneration =
      if s.assoc.inUse = BankName.active then s.ctrl.generation else s.ctrl.generation + 1 := by
  unfold State.declareGeneration
  cases s.assoc.inUse <;> rfl

/-- Settles O32: the candidate that the PICK joins is found by its open order, and the cases of R86 and R90 are
those of `joinCandidate`. -/
theorem pickJoinsTheOldestCandidate : Obligations.PickJoinsTheOldestCandidate := by
  intro s p rest released queue room stays
  rw [execAssociatorTakePick_unswitched released queue room stays]
  refine ⟨fun off => congrArg Host.Outcome.next (State.handlePick_disabled off), fun k c on held admits lowest => ?_⟩
  intro a joined moved bound
  have joins : State.handlePick { s with pickQueue := rest } p = State.joinCandidate { s with pickQueue := rest } k c p :=
    State.handlePick_joins on held admits lowest
  rw [joins]
  refine congrArg Host.Outcome.next ?_
  cases c with
  | mk state =>
    cases state with
    | declared => exact State.joinCandidate_declared rfl
    | opened =>
      rw [State.joinCandidate_opened rfl, ← State.declareGeneration_eq]
      rfl

/-! ## Opening a candidate (R87, R88, R89) -/

theorem State.handlePick_opens {s : State} {p : Pick} (on : (s.assocBank.station p.station).enable = true)
    (none : ∀ k c, s.candidate k = some c → c.admits s.assocBank p.station p.onset = false) :
    s.handlePick p = s.openCandidate p := by
  rw [State.handlePick, if_pos on]
  rw [(lowestOrder_eq_none_iff s.assoc.slots fun c => c.admits s.assocBank p.station p.onset).mpr none]

/-- The first element of `List.ofFn id` that passes a test is the lowest one. -/
theorem find?_ofFn_eq_some {n : Nat} {test : Fin n → Bool} {k : Fin n} (passes : test k = true)
    (below : ∀ j, j < k → test j = false) : (List.ofFn fun i : Fin n => i).find? test = some k := by
  rw [List.find?_eq_some_iff_getElem]
  refine ⟨passes, k.val, by simp, by simp, fun j hj => ?_⟩
  simpa using below ⟨j, Nat.lt_trans hj k.isLt⟩ hj

/-- Settles O33: the lowest FREE slot is the first that the search finds. -/
theorem pickOpensACandidate : Obligations.PickOpensACandidate := by
  intro s p rest released queue room stays on noneAdmits
  have opens : State.handlePick { s with pickQueue := rest } p = State.openCandidate { s with pickQueue := rest } p :=
    State.handlePick_opens on noneAdmits
  rw [execAssociatorTakePick_unswitched released queue room stays, opens, State.openCandidate]
  constructor
  · intro k free below
    have found : allSlots.find? (fun j => (State.candidate { s with pickQueue := rest } j).isNone) = some k :=
      find?_ofFn_eq_some (Option.isNone_iff_eq_none.mpr free)
        fun j hj => Option.isNone_eq_false_iff.mpr (Option.ne_none_iff_isSome.mp (below j hj))
    rw [found]
    rfl
  · intro full
    have found : allSlots.find? (fun j => (State.candidate { s with pickQueue := rest } j).isNone) = none :=
      List.find?_eq_none.mpr fun j _ free => full j (Option.isNone_iff_eq_none.mp free)
    rw [found]

/-! ## Renumbering (R82) -/

theorem countP_lt_of_mem {α : Type} {p q : α → Bool} {x : α} : ∀ {l : List α}, (∀ y ∈ l, p y = true → q y = true) →
    x ∈ l → p x = false → q x = true → l.countP p < l.countP q
  | [], _, mem, _, _ => nomatch mem
  | y :: l, implies, mem, fails, passes => by
    have tail : ∀ z ∈ l, p z = true → q z = true := fun z hz => implies z (List.mem_cons_of_mem y hz)
    obtain rfl | mem := List.mem_cons.mp mem
    · rw [List.countP_cons_of_neg (by simp [fails]), List.countP_cons_of_pos passes]
      exact Nat.lt_succ_of_le (List.countP_mono_left tail)
    · have less := countP_lt_of_mem tail mem fails passes
      rw [List.countP_cons, List.countP_cons]
      have head := implies y List.mem_cons_self
      by_cases py : p y = true
      · rw [if_pos py, if_pos (head py)]
        omega
      · rw [if_neg py]
        omega

/-- The slot holds a candidate of a lower open order. -/
def lowerIn (slots : Vector (Option Candidate) 16) (order : Nat) (k : Fin 16) : Bool :=
  match slots[k] with
  | some c => decide (c.order < order)
  | none => false

theorem orderRank_eq (slots : Vector (Option Candidate) 16) (order : Nat) :
    orderRank slots order = allSlots.countP (lowerIn slots order) := rfl

theorem lowerIn_iff {slots : Vector (Option Candidate) 16} {order : Nat} {k : Fin 16} :
    lowerIn slots order k = true ↔ ∃ c, slots[k] = some c ∧ c.order < order := by
  unfold lowerIn
  cases slots[k] <;> simp

theorem orderRank_mono {slots : Vector (Option Candidate) 16} {x y : Nat} (le : x ≤ y) :
    orderRank slots x ≤ orderRank slots y := by
  rw [orderRank_eq, orderRank_eq]
  refine List.countP_mono_left fun k _ lower => ?_
  obtain ⟨c, held, less⟩ := lowerIn_iff.mp lower
  exact lowerIn_iff.mpr ⟨c, held, Nat.lt_of_lt_of_le less le⟩

/-- R82: a candidate counts below every higher order, and not below its own. -/
theorem orderRank_lt {slots : Vector (Option Candidate) 16} {k : Fin 16} {c : Candidate} {y : Nat}
    (held : slots[k] = some c) (less : c.order < y) : orderRank slots c.order < orderRank slots y := by
  rw [orderRank_eq, orderRank_eq]
  refine countP_lt_of_mem (x := k) (fun j _ lower => ?_) (mem_allSlots k) ?_ (lowerIn_iff.mpr ⟨c, held, less⟩)
  · obtain ⟨d, heldd, lessd⟩ := lowerIn_iff.mp lower
    exact lowerIn_iff.mpr ⟨d, heldd, Nat.lt_trans lessd less⟩
  · refine Bool.eq_false_iff.mpr fun lower => ?_
    obtain ⟨d, heldd, lessd⟩ := lowerIn_iff.mp lower
    rw [held] at heldd
    cases heldd
    exact Nat.lt_irrefl _ lessd

theorem orderRank_lt_occupied {slots : Vector (Option Candidate) 16} {k : Fin 16} {c : Candidate}
    (held : slots[k] = some c) : orderRank slots c.order < occupied slots := by
  rw [orderRank_eq, occupied]
  refine countP_lt_of_mem (x := k) (fun j _ lower => ?_) (mem_allSlots k) ?_ (by rw [held]; rfl)
  · obtain ⟨d, heldd, -⟩ := lowerIn_iff.mp lower
    rw [heldd]
    rfl
  · refine Bool.eq_false_iff.mpr fun lower => ?_
    obtain ⟨d, heldd, lessd⟩ := lowerIn_iff.mp lower
    rw [held] at heldd
    cases heldd
    exact Nat.lt_irrefl _ lessd

/-- Settles O34: the rank counts the candidates of lower order, so it keeps their ranking. -/
theorem renumberingKeepsTheRanking : Obligations.RenumberingKeepsTheRanking := by
  refine fun a => ⟨fun below => if_neg below, fun top => ?_⟩
  have renumbered : a.renumber =
      { a with
        slots := tabulate fun k => (a.slots[k]).map fun c => { c with order := orderRank a.slots c.order }
        openOrder := occupied a.slots } := if_pos top
  have allEq : allSlots = List.finRange 16 := List.ofFn_id 16
  rw [renumbered]
  refine ⟨fun k => tabulate_get _ _ _, fun j k c d heldc heldd => ⟨fun less => ?_, orderRank_lt heldc⟩,
    fun k c held => orderRank_lt_occupied held, ?_, occupied_le a.slots, rfl, rfl, rfl, rfl⟩
  · exact Nat.lt_of_not_le fun le => Nat.not_le.mpr less (orderRank_mono le)
  · rw [← allEq]
    rfl

end Sys2Proof.Machine
end

section
/-! PROOFS. The associator closes candidates: the closings of a view change and of a bank switch, the view and the
watermark (chapters 5 and 6). -/

namespace Sys2Proof.Machine

/-! ## Closing the candidates that pass a test (R93, R94, R95) -/

/-- R95: the CLOSE messages of closed candidates, which only DECLARED ones have. -/
def closeMessages (switchClosed : Bool) (closed : List (Fin 16 × Candidate)) : List Message :=
  (closed.filter fun x => x.2.state = .declared).map fun x => .close ⟨x.1, x.2.picks, x.2.weight, switchClosed⟩

theorem closeMessages_cons (switchClosed : Bool) (x : Fin 16 × Candidate) (closed : List (Fin 16 × Candidate)) :
    closeMessages switchClosed (x :: closed) = closeMessages switchClosed [x] ++ closeMessages switchClosed closed := by
  simp only [closeMessages, ← List.map_append, ← List.filter_append, List.singleton_append]

theorem State.closeCandidate_eq (s : State) (switchClosed : Bool) (k : Fin 16) (c : Candidate) :
    s.closeCandidate switchClosed k c =
      { s with
        assoc := { s.assoc with slots := s.assoc.slots.set k none }
        channel := s.channel ++ closeMessages switchClosed [(k, c)] } := by
  unfold State.closeCandidate
  split <;> rename_i state
  · have silent : closeMessages switchClosed [(k, c)] = [] := by simp [closeMessages, state]
    rw [silent, List.append_nil]
    rfl
  · have sent : closeMessages switchClosed [(k, c)] = [.close ⟨k, c.picks, c.weight, switchClosed⟩] := by
      simp [closeMessages, state]
    rw [sent]
    rfl

/-- From `s` to `t` exactly the candidates that pass the test are closed, in ascending open order. -/
structure Closes (switchClosed : Bool) (test : Candidate → Bool) (s t : State)
    (closed : List (Fin 16 × Candidate)) : Prop where
  mem : ∀ k c, (k, c) ∈ closed ↔ s.candidate k = some c ∧ test c = true
  nodup : (closed.map Prod.fst).Nodup
  ordered : (closed.map fun x => x.2.order).Pairwise (· ≤ ·)
  slots : ∀ k, t.candidate k = (s.candidate k).filter fun c => !test c
  frame : t = { s with
    assoc := { s.assoc with slots := t.assoc.slots }
    channel := s.channel ++ closeMessages switchClosed closed }

theorem Closes.refl {test : Candidate → Bool} {s : State} (switchClosed : Bool)
    (fails : ∀ k c, s.candidate k = some c → test c = false) : Closes switchClosed test s s [] where
  mem k c := by
    refine ⟨(fun mem => nomatch mem), fun ⟨held, passes⟩ => ?_⟩
    rw [fails k c held] at passes
    cases passes
  nodup := List.nodup_nil
  ordered := List.Pairwise.nil
  slots k := by
    cases held : s.candidate k with
    | none => rfl
    | some c => rw [Option.filter_some, fails k c held]; rfl
  frame := by
    show s = { s with channel := s.channel ++ [] }
    rw [List.append_nil]

/-- A closing of the lowest candidate that passes, and then of the others. -/
theorem Closes.cons {switchClosed : Bool} {test : Candidate → Bool} {s t : State} {k : Fin 16} {c : Candidate}
    {closed : List (Fin 16 × Candidate)} (found : lowestOrder s.assoc.slots test = some (k, c))
    (rest : Closes switchClosed test (s.closeCandidate switchClosed k c) t closed) :
    Closes switchClosed test s t ((k, c) :: closed) := by
  obtain ⟨held, passes, lowest⟩ := lowestOrder_some found
  have after : ∀ j, (s.closeCandidate switchClosed k c).candidate j = if j = k then none else s.candidate j := by
    intro j
    rw [State.closeCandidate_eq, ← State.setCandidate_candidate s k j none]
    rfl
  have memRest : ∀ {j x}, (j, x) ∈ closed → j ≠ k ∧ s.candidate j = some x ∧ test x = true := by
    intro j x mem
    obtain ⟨heldx, passesx⟩ := (rest.mem j x).mp mem
    rw [after] at heldx
    split_ifs at heldx with same
    exact ⟨same, heldx, passesx⟩
  refine ⟨fun j x => ?_, ?_, ?_, fun j => ?_, ?_⟩
  · rw [List.mem_cons, rest.mem, after, Prod.mk.injEq]
    by_cases same : j = k
    · subst same
      have heldj : s.candidate j = some c := held
      simp only [true_and, if_true, reduceCtorEq, false_and, or_false, heldj, Option.some.injEq]
      exact ⟨fun eq => ⟨eq.symm, eq ▸ passes⟩, fun ⟨eq, _⟩ => eq.symm⟩
    · simp only [same, false_and, false_or, if_false]
  · rw [List.map_cons, List.nodup_cons]
    refine ⟨fun mem => ?_, rest.nodup⟩
    obtain ⟨⟨j, x⟩, memx, same⟩ := List.mem_map.mp mem
    exact (memRest memx).1 same
  · rw [List.map_cons, List.pairwise_cons]
    refine ⟨fun order mem => ?_, rest.ordered⟩
    obtain ⟨⟨j, x⟩, memx, rfl⟩ := List.mem_map.mp mem
    obtain ⟨-, heldx, passesx⟩ := memRest memx
    exact lowest j x heldx passesx
  · rw [rest.slots, after]
    split_ifs with same
    · subst same
      have heldj : s.candidate j = some c := held
      rw [heldj, Option.filter_some, passes]
      rfl
    · rfl
  · rw [closeMessages_cons, ← List.append_assoc]
    refine rest.frame.trans ?_
    rw [State.closeCandidate_eq]

/-- The number of candidates that pass a test. -/
def passingCount (s : State) (test : Candidate → Bool) : Nat :=
  allSlots.countP fun k => (passing s.assoc.slots test k).isSome

theorem passingCount_closeCandidate {switchClosed : Bool} {test : Candidate → Bool} {s : State} {k : Fin 16}
    {c : Candidate} (held : s.candidate k = some c) (passes : test c = true) :
    passingCount (s.closeCandidate switchClosed k c) test < passingCount s test := by
  have set : (s.closeCandidate switchClosed k c).assoc.slots = s.assoc.slots.set k none := by
    rw [State.closeCandidate_eq]
  have gone : passing (s.assoc.slots.set k none) test k = none := by
    rw [passing, Vector.get_set_fin, if_pos rfl]
    rfl
  refine countP_lt_of_mem (x := k) (fun j _ some => ?_) (mem_allSlots k) ?_ ?_
  · rw [set] at some
    by_cases same : k = j
    · subst same
      rw [gone] at some
      cases some
    · rw [passing, Vector.get_set_fin, if_neg (fun h => same (Fin.ext h.symm))] at some
      exact some
  · rw [set, gone]
    rfl
  · rw [passing_eq_some_iff.mpr ⟨held, passes⟩]
    rfl

theorem State.closeWhere_closes (switchClosed : Bool) (test : Candidate → Bool) :
    ∀ (fuel : Nat) (s : State), passingCount s test ≤ fuel →
      ∃ closed, Closes switchClosed test s (s.closeWhere switchClosed test fuel) closed := by
  intro fuel
  induction fuel with
  | zero =>
    intro s few
    refine ⟨[], .refl switchClosed fun k c held => Bool.eq_false_iff.mpr fun passes => ?_⟩
    have none := List.countP_eq_zero.mp (Nat.le_zero.mp few) k (mem_allSlots k)
    rw [passing_eq_some_iff.mpr ⟨held, passes⟩] at none
    exact none rfl
  | succ fuel ih =>
    intro s few
    unfold State.closeWhere
    split
    · rename_i none
      exact ⟨[], .refl switchClosed fun k c held => (lowestOrder_eq_none_iff s.assoc.slots test).mp none k c held⟩
    · rename_i k c found
      obtain ⟨held, passes, -⟩ := lowestOrder_some found
      have fewer := passingCount_closeCandidate (switchClosed := switchClosed) held passes
      obtain ⟨closed, closes⟩ := ih (s.closeCandidate switchClosed k c) (by omega)
      exact ⟨(k, c) :: closed, .cons found closes⟩

/-- Sixteen closings are enough for sixteen slots. -/
theorem State.closeWhere_all (switchClosed : Bool) (test : Candidate → Bool) (s : State) :
    ∃ closed, Closes switchClosed test s (s.closeWhere switchClosed test 16) closed :=
  s.closeWhere_closes switchClosed test 16 (List.countP_le_length.trans (by simp [allSlots]))

theorem pairwise_filter_map {α : Type} {f : α → Nat} {l : List α} (p : α → Bool)
    (ordered : (l.map f).Pairwise (· ≤ ·)) : ((l.filter p).map f).Pairwise (· ≤ ·) :=
  ordered.sublist (List.filter_sublist.map f)

/-! ## The bank switch (R97) -/

theorem State.whileReleased_self (s : State) : s.whileReleased s = .next s := by
  unfold State.whileReleased
  split_ifs <;> rfl

theorem State.sendReport_ctrl (s : State) (b : SwitchBlock) :
    (s.sendReport b).ctrl = { s.ctrl with reports := s.ctrl.reports ++ [⟨b, false⟩] } := rfl

theorem entrySwitches_iff (sw : Option SwitchPoint) (e : QueueEntry) : entrySwitches sw e = true ↔
    sw = some .immediate ∨ ∃ p i, sw = some (.atIndex p) ∧ (i = p ∨ precedes p i = true) ∧ e.index = some i := by
  match sw with
  | none => simp [entrySwitches]
  | some .immediate => simp [entrySwitches]
  | some (.atIndex p) =>
    cases index : e.index with
    | none => simp [entrySwitches, index]
    | some i => simp [entrySwitches, index, atOrAfter]

theorem QueueEntry.index_eq_some_iff (e : QueueEntry) (i : Index) :
    e.index = some i ↔ (∃ x, e = .pick x ∧ x.onset = i) ∨ ∃ m, e = .mark m ∧ m.progress = some i := by
  cases e <;> simp [QueueEntry.index]

/-- Settles O38: the switch closes the candidates that pass the test that is always true. -/
theorem switchFlushesTheCandidates : Obligations.SwitchFlushesTheCandidates := by
  refine ⟨fun s => rfl, fun s e rest released queue room stays => ⟨?_, ?_⟩, fun sw e => ?_, fun s full => ?_, fun s => ?_⟩
  · rintro p rfl
    exact execAssociatorTakePick_unswitched released queue room stays
  · rintro m rfl
    exact execAssociatorTakeLineMark_unswitched released queue room stays
  · simp only [entrySwitches_iff, QueueEntry.index_eq_some_iff]
  · constructor
    · show execAssociatorTakePick s = _
      rw [execAssociatorTakePick, State.takeable_full full]
      exact State.whileReleased_self s
    · show execAssociatorTakeLineMark s = _
      rw [execAssociatorTakeLineMark, State.takeable_full full]
      exact State.whileReleased_self s
  · obtain ⟨closed, closes⟩ := s.closeWhere_all true fun _ => true
    have frame := closes.frame
    have assoc : (s.closeWhere true (fun _ => true) 16).assoc =
        { s.assoc with slots := (s.closeWhere true (fun _ => true) 16).assoc.slots } := congrArg State.assoc frame
    refine ⟨fun k => ?_, rfl, rfl, (congrArg Associator.watermark assoc).trans rfl,
      (congrArg Associator.view assoc).trans rfl, (congrArg Associator.openOrder assoc).trans rfl, ?_, ?_,
      fun e rest released queue room switches => ⟨?_, ?_⟩⟩
    · refine (closes.slots k).trans ?_
      cases s.candidate k <;> rfl
    · have ctrl := (congrArg State.ctrl frame).trans rfl
      rw [State.assocSwitch, State.sendReport_ctrl]
      exact ctrl ▸ rfl
    · refine ⟨closed.filter fun x => x.2.state = .declared, (congrArg State.channel frame).trans rfl, fun k c => ?_,
        closes.nodup.sublist (List.filter_sublist.map _), pairwise_filter_map _ closes.ordered⟩
      rw [List.mem_filter, closes.mem]
      simp
    · rintro p rfl
      have switched : State.assocSwitchFor { s with pickQueue := rest } (.pick p) =
        State.assocSwitch { s with pickQueue := rest } := State.assocSwitchFor_true switches
      rw [execAssociatorTakePick_taken released queue room, switched]
    · rintro m rfl
      have switched : State.assocSwitchFor { s with pickQueue := rest } (.mark m) =
        State.assocSwitch { s with pickQueue := rest } := State.assocSwitchFor_true switches
      rw [execAssociatorTakeLineMark_taken released queue room, switched]

end Sys2Proof.Machine
end

section
/-! PROOFS. A LINE MARK taken: the view, the watermark, and the candidates closed behind it (chapters 5 and 6). -/

namespace Sys2Proof.Machine

/-! ## The watermark after a view change (R73) -/

/-- R73: the progress that a line's view contributes. -/
def LineView.contribution (v : LineView) : Option Index := if v.live then v.progress else none

theorem liveProgress_eq (v : PerLine LineView) :
    liveProgress v = v.a.contribution.toList ++ v.b.contribution.toList := by
  unfold liveProgress LineView.contribution
  cases v.a.live <;> cases v.b.live <;> rfl

/-- R73: the earliest progress of the lines whose view is live. -/
def earliestProgress (v : PerLine LineView) : Option Index :=
  match v.a.contribution, v.b.contribution with
  | some x, some y => some (if precedes y x then y else x)
  | some x, none => some x
  | none, y => y

theorem watermarkAfter_eq (w : Option Index) (v : PerLine LineView) :
    watermarkAfter w v = match w, earliestProgress v with
      | none, i => i
      | some w, none => some w
      | some w, some i => some (if precedes w i then i else w) := by
  unfold watermarkAfter earliestProgress
  rw [liveProgress_eq]
  cases v.a.contribution with
  | none =>
    cases v.b.contribution with
    | none => cases w <;> rfl
    | some y =>
      cases w with
      | none => rfl
      | some w => exact (apply_ite some (precedes w y = true) y w).symm
  | some x =>
    cases v.b.contribution with
    | none =>
      cases w with
      | none => rfl
      | some w => exact (apply_ite some (precedes w x = true) x w).symm
    | some y =>
      cases w with
      | none => rfl
      | some w => exact (apply_ite some (precedes w _ = true) _ w).symm

/-- R73: a watermark stays or moves forward. -/
theorem watermarkAfter_forward (w : Index) (v : PerLine LineView) :
    ∃ w', watermarkAfter (some w) v = some w' ∧ (w' = w ∨ precedes w w' = true) := by
  rw [watermarkAfter_eq]
  cases earliestProgress v with
  | none => exact ⟨w, rfl, .inl rfl⟩
  | some i =>
    by_cases later : precedes w i = true
    · exact ⟨i, congrArg some (if_pos later), .inr later⟩
    · exact ⟨w, congrArg some (if_neg later), .inl rfl⟩

/-! ## A view change (R72, R73, R93) -/

/-- R72, R73: a line's view set and the watermark judged, before any candidate is closed. -/
def State.viewed (s : State) (l : Line) (v : LineView) : State :=
  { s with assoc := { s.assoc with
      view := s.assoc.view.set l v
      watermark := watermarkAfter s.assoc.watermark (s.assoc.view.set l v) } }

/-- R93: a candidate lies behind a watermark that has changed. -/
def Candidate.behind (old new : Option Index) (c : Candidate) : Bool :=
  match new with
  | none => false
  | some i => decide (new ≠ old) && precedes c.deadline i

theorem Candidate.behind_same (w : Option Index) (c : Candidate) : c.behind w w = false := by
  cases w <;> simp [Candidate.behind]

theorem Candidate.behind_changed {old : Option Index} {w : Index} (changed : some w ≠ old) (c : Candidate) :
    c.behind old (some w) = precedes c.deadline w := by
  rw [Candidate.behind, decide_eq_true changed, Bool.true_and]

theorem State.viewStep_eq (s : State) (l : Line) (v : LineView) :
    s.viewStep l v =
      if (s.viewed l v).assoc.watermark = s.assoc.watermark then s.viewed l v
      else match (s.viewed l v).assoc.watermark with
        | none => s.viewed l v
        | some i => (s.viewed l v).closeWhere false (fun c => precedes c.deadline i) 16 := rfl

theorem State.viewStep_unchanged {s : State} {l : Line} {v : LineView}
    (same : (s.viewed l v).assoc.watermark = s.assoc.watermark) : s.viewStep l v = s.viewed l v := if_pos same

theorem State.viewStep_closes (s : State) (l : Line) (v : LineView) :
    ∃ closed, Closes false (Candidate.behind s.assoc.watermark (s.viewed l v).assoc.watermark)
      (s.viewed l v) (s.viewStep l v) closed := by
  by_cases same : (s.viewed l v).assoc.watermark = s.assoc.watermark
  · rw [State.viewStep_unchanged same, same]
    exact ⟨[], .refl false fun k c _ => c.behind_same _⟩
  · rw [State.viewStep_eq, if_neg same]
    cases moved : (s.viewed l v).assoc.watermark with
    | none => exact ⟨[], .refl false fun _ _ _ => rfl⟩
    | some w =>
      rw [funext (Candidate.behind_changed (moved ▸ same))]
      exact State.closeWhere_all _ _ _

theorem State.viewStep_frame (s : State) (l : Line) (v : LineView) :
    s.viewStep l v =
      { s with
        assoc := { s.assoc with
          view := s.assoc.view.set l v
          watermark := watermarkAfter s.assoc.watermark (s.assoc.view.set l v)
          slots := (s.viewStep l v).assoc.slots }
        channel := (s.viewStep l v).channel } := by
  obtain ⟨closed, closes⟩ := s.viewStep_closes l v
  rw [closes.frame]
  rfl

theorem State.viewStep_watermark (s : State) (l : Line) (v : LineView) :
    (s.viewStep l v).assoc.watermark = watermarkAfter s.assoc.watermark (s.assoc.view.set l v) := by
  rw [State.viewStep_frame]

theorem State.viewStep_view (s : State) (l : Line) (v : LineView) :
    (s.viewStep l v).assoc.view = s.assoc.view.set l v := by
  rw [State.viewStep_frame]

/-! ## The view and the watermark after a LINE MARK (R72, R73, R92) -/

/-- R72: the view that a LINE MARK gives its line. -/
def LineMark.view (m : LineMark) : LineView := if m.live then ⟨true, m.progress⟩ else ⟨false, none⟩

/-- R72: a live mark with restart set is taken as the leave first. -/
def State.markLeaves (s : State) (m : LineMark) : State :=
  if m.live = true ∧ m.restart = true then s.viewStep m.line ⟨false, none⟩ else s

/-- R72, R92: a LINE MARK is a leave where it is one, and then the view change that it names. -/
theorem State.handleMark_eq (s : State) (m : LineMark) :
    s.handleMark m = (s.markLeaves m).viewStep m.line m.view := by
  unfold State.handleMark State.markLeaves LineMark.view
  cases m.live <;> cases m.restart <;> rfl

theorem State.markLeaves_of_not_restart {s : State} {m : LineMark} (stays : m.restart = false) : s.markLeaves m = s :=
  if_neg fun h => Bool.false_ne_true (stays.symm.trans h.2)

theorem State.handleMark_frame (s : State) (m : LineMark) :
    s.handleMark m =
      { s with
        assoc := { s.assoc with
          view := s.assoc.view.set m.line m.view
          watermark := watermarkAfter
            (if m.live = true ∧ m.restart = true then
              watermarkAfter s.assoc.watermark (s.assoc.view.set m.line ⟨false, none⟩) else s.assoc.watermark)
            (s.assoc.view.set m.line m.view)
          slots := (s.handleMark m).assoc.slots }
        channel := (s.handleMark m).channel } := by
  rw [State.handleMark_eq, State.markLeaves]
  by_cases returns : m.live = true ∧ m.restart = true
  · rw [if_pos returns, if_pos returns]
    refine (State.viewStep_frame _ _ _).trans ?_
    have gone := s.viewStep_frame m.line ⟨false, none⟩
    rw [State.viewStep_view, State.viewStep_watermark, PerLine.set_set]
    generalize State.viewStep (s.viewStep m.line ⟨false, none⟩) m.line m.view = t
    rw [gone]
  · rw [if_neg returns, if_neg returns]
    exact State.viewStep_frame _ _ _

theorem State.eq_with_assoc_channel {s t : State} {a : Associator} {c : List Message}
    (frame : t = { s with assoc := a, channel := c }) : t = { s with assoc := t.assoc, channel := t.channel } := by
  subst frame
  rfl

/-- Settles O35: the frame of the view changes of a mark gives each field. -/
theorem lineMarkSetsTheView : Obligations.LineMarkSetsTheView := by
  intro s m rest released queue room stays gone view live earliest judge
  have judged : ∀ w v, watermarkAfter w v = judge w v := watermarkAfter_eq
  have frame := State.handleMark_frame { s with pickQueue := rest } m
  have assoc := congrArg State.assoc frame
  refine ⟨_, execAssociatorTakeLineMark_unswitched released queue room stays,
    (congrArg Associator.view assoc).trans rfl, ?_, (congrArg Associator.openOrder assoc).trans rfl,
    (congrArg Associator.inUse assoc).trans rfl, (congrArg Associator.switch assoc).trans rfl, ?_, ?_⟩
  · refine (congrArg Associator.watermark assoc).trans ?_
    rw [← judged, ← judged]
    rfl
  · exact State.eq_with_assoc_channel frame
  · intro same single
    have one : State.handleMark { s with pickQueue := rest } m =
        State.viewStep { s with pickQueue := rest } m.line m.view := by
      rw [State.handleMark_eq, State.markLeaves_of_not_restart single]
    rw [one] at same ⊢
    rw [State.viewStep_watermark] at same
    have unchanged : State.viewStep { s with pickQueue := rest } m.line m.view =
        State.viewed { s with pickQueue := rest } m.line m.view := State.viewStep_unchanged same
    rw [unchanged]
    exact ⟨rfl, rfl⟩

/-! ## The watermark and the commands (R73) -/

/-- No command but a reset and the taking of a LINE MARK changes the watermark. -/
theorem Move.watermark {i : Instr} {s0 s t : State} (mark : i ≠ .associatorTakeLineMark) (engine : i ≠ .resetEngine)
    (full : i ≠ .resetFull) (asserted : i ≠ .rstnAsserted) (released : ∀ u, i ≠ .rstnReleased u)
    (move : Move i s0 s t) : t.assoc.watermark = s.assoc.watermark := by
  cases move with
  | bank _ move => rw [move.frame]
  | assoc _ move =>
    cases move with
    | viewed _ _ taking => exact absurd taking mark
    | _ => rfl
  | capture _ move => rw [move.frame]
  | engineReset row => exact absurd row engine
  | fullReset row => exact absurd row full
  | powerOn _ _ row =>
    obtain row | ⟨u, row⟩ := row
    · exact absurd row asserted
    · exact absurd row (released u)
  | _ => rfl

theorem State.assocSwitchFor_assoc (s : State) (e : QueueEntry) :
    (s.assocSwitchFor e).assoc.watermark = s.assoc.watermark ∧ (s.assocSwitchFor e).assoc.view = s.assoc.view := by
  unfold State.assocSwitchFor
  split_ifs
  · obtain ⟨closed, closes⟩ := s.closeWhere_all true fun _ => true
    have assoc := congrArg State.assoc closes.frame
    exact ⟨(congrArg Associator.watermark assoc).trans rfl, (congrArg Associator.view assoc).trans rfl⟩
  · exact ⟨rfl, rfl⟩

theorem State.mark_of_takeable {s : State} {m : LineMark} (found : s.takeable = some (.mark m)) :
    ∃ rest, s.pickQueue = .mark m :: rest := by
  unfold State.takeable at found
  split_ifs at found
  exact List.head?_eq_some_iff.mp found

/-- Settles O36: each view change moves the watermark forward or leaves it, and nothing else changes it. -/
theorem watermarkNeverFallsBack : Obligations.WatermarkNeverFallsBack := by
  intro c s t w next start asserted released full engine
  by_cases mark : c = .associatorTakeLineMark
  · subst mark
    have taken : execAssociatorTakeLineMark s = .next t := next
    unfold execAssociatorTakeLineMark State.whileReleased at taken
    cases taken
    split_ifs
    · split
      · rename_i m found
        obtain ⟨sameMark, sameView⟩ := s.dropEntry.assocSwitchFor_assoc (.mark m)
        have startMark : (s.dropEntry.assocSwitchFor (.mark m)).assoc.watermark = some w := sameMark.trans start
        have final := congrArg (fun u => u.assoc.watermark) (State.handleMark_frame (s.dropEntry.assocSwitchFor (.mark m)) m)
        simp only [startMark] at final
        by_cases returns : m.live = true ∧ m.restart = true
        · obtain ⟨rest, queue⟩ := State.mark_of_takeable found
          rw [if_pos returns] at final
          obtain ⟨w1, leave, forward1⟩ := watermarkAfter_forward w
            ((s.dropEntry.assocSwitchFor (.mark m)).assoc.view.set m.line ⟨false, none⟩)
          rw [leave] at final
          obtain ⟨w2, back, forward2⟩ := watermarkAfter_forward w1
            ((s.dropEntry.assocSwitchFor (.mark m)).assoc.view.set m.line m.view)
          refine .inr ⟨m, rest, w1, w2, rfl, queue, returns.1, returns.2, ?_, final.trans back, forward1, forward2⟩
          rw [State.viewStep_watermark, start, ← leave, sameView]
          rfl
        · rw [if_neg returns] at final
          obtain ⟨w', judged, forward⟩ := watermarkAfter_forward w
            ((s.dropEntry.assocSwitchFor (.mark m)).assoc.view.set m.line m.view)
          exact .inl ⟨w', final.trans judged, forward⟩
      · exact .inl ⟨w, start, .inl rfl⟩
    · exact .inl ⟨w, start, .inl rfl⟩
  · have same : t.assoc.watermark = s.assoc.watermark :=
      Moves.keep (P := fun u => u.assoc.watermark = s.assoc.watermark)
        (fun _ _ move ok => (move.watermark mark engine full asserted released).trans ok) (exec_moves next) rfl
    exact .inl ⟨w, same.trans start, .inl rfl⟩

/-! ## The candidates closed behind the watermark (R93, R94, R95) -/

/-- From `s` to `t` the candidates of the list are closed, and every other candidate stays as it was. -/
structure Closed (s t : State) (closed : List (Fin 16 × Candidate)) : Prop where
  mem : ∀ k c, (k, c) ∈ closed ↔ s.candidate k = some c ∧ t.candidate k = none
  nodup : (closed.map Prod.fst).Nodup
  kept : ∀ k c, t.candidate k = some c → s.candidate k = some c
  channel : t.channel = s.channel ++ closeMessages false closed

theorem closeMessages_append (switchClosed : Bool) (xs ys : List (Fin 16 × Candidate)) :
    closeMessages switchClosed (xs ++ ys) = closeMessages switchClosed xs ++ closeMessages switchClosed ys := by
  simp only [closeMessages, List.filter_append, List.map_append]

theorem Closed.refl (s : State) : Closed s s [] where
  mem _ _ := ⟨(fun mem => nomatch mem), fun ⟨held, free⟩ => nomatch held.symm.trans free⟩
  nodup := List.nodup_nil
  kept _ _ held := held
  channel := (List.append_nil _).symm

theorem Closed.trans {s u t : State} {xs ys : List (Fin 16 × Candidate)} (first : Closed s u xs)
    (second : Closed u t ys) : Closed s t (xs ++ ys) where
  mem k c := by
    rw [List.mem_append, first.mem, second.mem]
    constructor
    · rintro (⟨held, free⟩ | ⟨held, free⟩)
      · refine ⟨held, Option.eq_none_iff_forall_ne_some.mpr fun x heldx => ?_⟩
        exact nomatch free.symm.trans (second.kept k x heldx)
      · exact ⟨first.kept k c held, free⟩
    · rintro ⟨held, free⟩
      cases between : u.candidate k with
      | none => exact .inl ⟨held, rfl⟩
      | some x => exact .inr ⟨(first.kept k x between).symm.trans held, free⟩
  nodup := by
    rw [List.map_append]
    refine List.Nodup.append first.nodup second.nodup ?_
    rw [List.disjoint_left]
    intro k memx memy
    obtain ⟨⟨j, x⟩, inxs, rfl⟩ := List.mem_map.mp memx
    obtain ⟨⟨j', y⟩, inys, same⟩ := List.mem_map.mp memy
    cases (same : j' = j)
    exact nomatch ((first.mem j x).mp inxs).2.symm.trans ((second.mem j y).mp inys).1
  kept k c held := first.kept k c (second.kept k c held)
  channel := by rw [second.channel, first.channel, closeMessages_append, List.append_assoc]

theorem Closes.closed {test : Candidate → Bool} {s t : State} {closed : List (Fin 16 × Candidate)}
    (closes : Closes false test s t closed) : Closed s t closed where
  mem k c := by
    rw [closes.mem, closes.slots]
    refine and_congr_right fun held => ?_
    rw [held, Option.filter_some]
    cases test c <;> simp
  nodup := closes.nodup
  kept k c held := (Option.filter_eq_some_iff.mp ((closes.slots k).symm.trans held)).1
  channel := (congrArg State.channel closes.frame).trans rfl

/-- A view change leaves no candidate behind the watermark that it judged anew. -/
theorem State.viewStep_clear {s : State} {l : Line} {v : LineView} {w : Index}
    (moved : (s.viewStep l v).assoc.watermark = some w)
    (clear : some w = s.assoc.watermark → ∀ k c, s.candidate k = some c → precedes c.deadline w = false)
    {k : Fin 16} {c : Candidate} (held : (s.viewStep l v).candidate k = some c) : precedes c.deadline w = false := by
  obtain ⟨closed, closes⟩ := s.viewStep_closes l v
  rw [State.viewStep_watermark] at moved
  obtain ⟨heldBefore, stays⟩ := Option.filter_eq_some_iff.mp ((closes.slots k).symm.trans held)
  by_cases changed : some w = s.assoc.watermark
  · exact clear changed k c heldBefore
  · have newMark : (s.viewed l v).assoc.watermark = some w := moved
    rw [newMark, Candidate.behind_changed changed] at stays
    simpa using stays

theorem State.viewStep_closed (s : State) (l : Line) (v : LineView) : ∃ closed, Closed s (s.viewStep l v) closed := by
  obtain ⟨closed, closes⟩ := s.viewStep_closes l v
  obtain ⟨mem, nodup, kept, channel⟩ := closes.closed
  exact ⟨closed, mem, nodup, kept, channel⟩

theorem State.markLeaves_closed (s : State) (m : LineMark) : ∃ closed, Closed s (s.markLeaves m) closed := by
  unfold State.markLeaves
  split_ifs
  · exact s.viewStep_closed _ _
  · exact ⟨[], .refl s⟩

/-- The leave of a restarting mark leaves no candidate behind a watermark that it changed. -/
theorem State.markLeaves_clear {s : State} {m : LineMark} {w : Index} (changed : some w ≠ s.assoc.watermark)
    (moved : some w = (s.markLeaves m).assoc.watermark) (k : Fin 16) (c : Candidate)
    (held : (s.markLeaves m).candidate k = some c) : precedes c.deadline w = false := by
  unfold State.markLeaves at moved held
  split_ifs at moved held
  · exact State.viewStep_clear moved.symm (fun same => absurd same changed) held
  · exact absurd moved changed

/-- Settles O37: the closings of the leave and of the return together; a mark that does not restart makes only the
second. -/
theorem candidatesClosedBehindWatermark : Obligations.CandidatesClosedBehindWatermark := by
  intro s t m rest w released queue room stays next final changed
  rw [execAssociatorTakeLineMark_unswitched released queue room stays] at next
  cases next
  rw [State.handleMark_eq] at final changed ⊢
  have moved : some w ≠ s.assoc.watermark := final ▸ changed
  obtain ⟨xs, leaves⟩ := State.markLeaves_closed { s with pickQueue := rest } m
  obtain ⟨ys, returns⟩ := State.viewStep_closes (State.markLeaves { s with pickQueue := rest } m) m.line m.view
  have both := leaves.trans (⟨returns.closed.mem, returns.closed.nodup, returns.closed.kept, returns.closed.channel⟩ :
    Closed (State.markLeaves { s with pickQueue := rest } m) _ ys)
  refine ⟨fun k c held => ⟨?_, both.kept k c held⟩, (xs ++ ys).filter fun x => x.2.state = .declared, both.channel,
    fun k c => ?_, both.nodup.sublist (List.filter_sublist.map _), fun single => ⟨?_, ?_⟩⟩
  · exact State.viewStep_clear final (fun same => State.markLeaves_clear moved same) held
  · rw [List.mem_filter, both.mem, decide_eq_true_iff, and_assoc]
    rfl
  · have none : xs = [] := by
      refine List.eq_nil_iff_forall_not_mem.mpr fun ⟨k, c⟩ mem => ?_
      obtain ⟨held, free⟩ := (leaves.mem k c).mp mem
      rw [State.markLeaves_of_not_restart single] at free
      exact nomatch held.symm.trans free
    rw [none]
    exact pairwise_filter_map _ returns.ordered
  · intro k c held ahead
    rw [State.markLeaves_of_not_restart single] at returns final ⊢
    rw [State.viewStep_watermark] at final
    have newMark : (State.viewed { s with pickQueue := rest } m.line m.view).assoc.watermark = some w := final
    refine (returns.slots k).trans ?_
    have heldBefore : (State.viewed { s with pickQueue := rest } m.line m.view).candidate k = some c := held
    rw [heldBefore, Option.filter_some, newMark, Candidate.behind_changed moved, ahead]
    rfl

end Sys2Proof.Machine
end

section
/-! PROOFS. Station entries: the window and its ranges, an event at an entry, and the bulk copy (chapter 7). -/

namespace Sys2Proof.Machine

/-! ## The window and its two ranges (R109, R112) -/

theorem CaptureSection.contains_iff (c : CaptureSection) (i : Index) : c.contains i = true ↔ c.offset i < c.size :=
  decide_eq_true_iff

theorem CaptureSection.directContains_iff {c : CaptureSection} (e : StationEntry) {i : Index}
    (inside : c.contains i = true) :
    c.directContains e i = true ↔ ¬ c.offset i < c.bulkLength e.boundary := by
  rw [CaptureSection.directContains, inside, Bool.true_and, decide_eq_true_iff, Nat.not_lt]

theorem CaptureSection.bulkLength_none (c : CaptureSection) : c.bulkLength none = 0 := rfl

theorem CaptureSection.bulkLength_of_before {c : CaptureSection} {b : Index} (before : atOrAfter b c.start = false) :
    c.bulkLength (some b) = 0 := if_neg (before ▸ Bool.false_ne_true)

theorem atOrAfter_iff (b a : Index) : atOrAfter b a = true ↔ (b - a).toNat ≤ 2147483647 := by
  rw [atOrAfter, Bool.or_eq_true, decide_eq_true_iff, precedes_iff_between]
  constructor
  · rintro (rfl | after)
    · simp
    · exact after.2
  · intro near
    by_cases same : b = a
    · exact .inl same
    · refine .inr ⟨?_, near⟩
      have apart : (b - a).toNat ≠ 0 := fun zero => same (by bv_omega)
      omega

/-- R112: a bulk range that is not empty ends at the boundary or at the window's end, the earlier of them. -/
theorem CaptureSection.bulkLength_of_atOrAfter {c : CaptureSection} {b : Index} (short : c.size ≤ 8192)
    (after : atOrAfter b c.start = true) : c.bulkLength (some b) = min (c.offset b) (c.offset c.stop) + 1 := by
  have window : c.offset c.stop + 1 ≤ 8192 := short
  have near : c.offset b ≤ 2147483647 := (atOrAfter_iff b c.start).mp after
  have between : (b - c.stop).toNat = (c.offset b + 4294967296 - c.offset c.stop) % 4294967296 := by
    unfold CaptureSection.offset
    rw [← sub_toNat]
    congr 1
    bv_omega
  have earliest : earliestOf b [c.stop] = if precedes c.stop b = true then c.stop else b := rfl
  refine (if_pos after).trans ?_
  rw [earliest]
  by_cases past : precedes c.stop b = true
  · rw [if_pos past]
    rw [precedes_iff_between, between] at past
    omega
  · rw [if_neg past]
    rw [precedes_iff_between, between] at past
    omega

/-- Settles O42: the bulk range ends at the earlier of the boundary and the window's end. -/
theorem windowSplitsAtBoundary : Obligations.WindowSplitsAtBoundary := by
  refine ⟨fun c e i => ⟨sub_toNat _ _, congrArg (· + 1) (sub_toNat _ _), c.contains_iff i, fun outside => ?_⟩,
    fun c e i short inside => ⟨?_, c.directContains_iff e inside, fun none => ?_, fun b boundary => ⟨?_, ?_⟩⟩⟩
  · rw [CaptureSection.directContains, outside, Bool.false_and]
  · cases e.boundary with
    | none => exact Nat.zero_le _
    | some b =>
      cases side : atOrAfter b c.start with
      | false => rw [CaptureSection.bulkLength_of_before side]; exact Nat.zero_le _
      | true =>
        rw [CaptureSection.bulkLength_of_atOrAfter short side]
        exact Nat.succ_le_succ (Nat.min_le_right _ _)
  · rw [none, CaptureSection.bulkLength_none]
  · intro before
    rw [boundary, CaptureSection.bulkLength_of_before before]
  · intro after
    have within : c.offset i < c.offset c.stop + 1 := (c.contains_iff i).mp inside
    rw [boundary, CaptureSection.bulkLength_of_atOrAfter short after]
    omega

/-! ## An event at a station entry (R118, R120) -/

/-- R118: the event acts on the first entry of the station, and completes it or not. -/
theorem CaptureSection.changeEntry_at (c : CaptureSection) (f : StationEntry → StationEntry) (e : StationEntry)
    (after : List StationEntry) : ∀ before : List StationEntry, (∀ x ∈ before, x.station ≠ e.station) →
    c.changeEntry e.station f (before ++ e :: after) =
      if completes f e then ⟨before ++ c.keptEntry (f e) :: after, c.unusedBlocks (f e), true⟩
      else ⟨before ++ f e :: after, [], false⟩
  | [], _ => by
    rw [List.nil_append, CaptureSection.changeEntry, if_pos rfl, CaptureSection.keptEntry_eq,
      CaptureSection.unusedBlocks_eq]
    rfl
  | x :: before, others => by
    have rest := changeEntry_at c f e after before fun y mem => others y (List.mem_cons_of_mem x mem)
    rw [List.cons_append, CaptureSection.changeEntry, if_neg (others x List.mem_cons_self), rest]
    by_cases completed : completes f e = true
    · rw [if_pos completed, if_pos completed]
      rfl
    · rw [if_neg completed, if_neg completed]
      rfl

/-- The record with another list of station entries. -/
def Record.withEntries (r : Record) (c : CaptureSection) (es : List StationEntry) : Record :=
  { r with capture := some { c with entries := es } }

theorem Record.withEntries_readyNotice (r : Record) (c : CaptureSection) (es : List StationEntry) :
    (r.withEntries c es).readyNotice =
      .eventReady r.number .captured es.length (es.countP StationEntry.startClamped)
        (es.countP StationEntry.lineLost) (es.countP StationEntry.testData) := rfl

theorem State.entryEvent_of_capture {s : State} {p : Fin 32} {r : Record} {c : CaptureSection}
    (held : s.record p = some r) (capture : r.capture = some c) (st : Station) (f : StationEntry → StationEntry) :
    s.entryEvent p st f =
      if ((c.changeEntry st f c.entries).completed && decide (r.state = .filling) &&
          (r.withEntries c (c.changeEntry st f c.entries).entries).allComplete) = true then
        ((s.setRecord p (some { r.withEntries c (c.changeEntry st f c.entries).entries with state := .ready })).returnBlocks
          (c.changeEntry st f c.entries).returned).request
          (r.withEntries c (c.changeEntry st f c.entries).entries).readyNotice
      else (s.setRecord p (some (r.withEntries c (c.changeEntry st f c.entries).entries))).returnBlocks
        (c.changeEntry st f c.entries).returned := by
  unfold State.entryEvent
  rw [held]
  dsimp only
  rw [capture]
  rfl

theorem State.returnBlocks_none (s : State) : s.returnBlocks [] = s := by
  rw [State.returnBlocks, List.append_nil]

/-- An event that does not complete the entry changes it and nothing else. -/
theorem State.entryEvent_going {s : State} {p : Fin 32} {r : Record} {c : CaptureSection}
    {before after : List StationEntry} {e : StationEntry} {f : StationEntry → StationEntry}
    (held : s.record p = some r) (capture : r.capture = some c) (entries : c.entries = before ++ e :: after)
    (others : ∀ x ∈ before, x.station ≠ e.station) (going : completes f e = false) :
    s.entryEvent p e.station f = s.setRecord p (some (r.withEntries c (before ++ f e :: after))) := by
  have change := c.changeEntry_at f e after before others
  rw [if_neg (going ▸ Bool.false_ne_true)] at change
  rw [State.entryEvent_of_capture held capture, entries, change]
  exact State.returnBlocks_none _

/-- R118, R120: an event that completes the entry returns its unused blocks, and may make the record READY. -/
theorem State.entryEvent_completing {s : State} {p : Fin 32} {r : Record} {c : CaptureSection}
    {before after : List StationEntry} {e : StationEntry} {f : StationEntry → StationEntry}
    (held : s.record p = some r) (capture : r.capture = some c) (entries : c.entries = before ++ e :: after)
    (others : ∀ x ∈ before, x.station ≠ e.station) (completed : completes f e = true) :
    s.entryEvent p e.station f =
      if r.state = .filling ∧ ∀ x ∈ before ++ after, x.complete = true then
        ((s.setRecord p (some { r.withEntries c (before ++ c.keptEntry (f e) :: after) with state := .ready })).returnBlocks
          (c.unusedBlocks (f e))).request (r.withEntries c (before ++ c.keptEntry (f e) :: after)).readyNotice
      else (s.setRecord p (some (r.withEntries c (before ++ c.keptEntry (f e) :: after)))).returnBlocks
        (c.unusedBlocks (f e)) := by
  have complete : (f e).complete = true := (Bool.and_eq_true_iff.mp completed).1
  have all : (r.withEntries c (before ++ c.keptEntry (f e) :: after)).allComplete = true ↔
      ∀ x ∈ before ++ after, x.complete = true := by
    show (before ++ c.keptEntry (f e) :: after).all StationEntry.complete = true ↔ _
    rw [List.all_append, List.all_cons, CaptureSection.keptEntry_complete, complete, Bool.true_and, ← List.all_append,
      List.all_eq_true]
  rw [State.entryEvent_of_capture held capture, entries, c.changeEntry_at f e after before others, if_pos completed]
  refine if_congr ?_ rfl rfl
  rw [Bool.true_and, Bool.and_eq_true, decide_eq_true_iff, all]

/-! ## Completion (R101, R118, R120) -/

/-- R118: a position stays when its block holds a copied instant. -/
theorem CaptureSection.keepsPosition_iff (c : CaptureSection) (e : StationEntry) (k : Nat) :
    c.keepsPosition e k = true ↔
      ∃ first o, c.firstCopied e = some first ∧ c.offset first ≤ o ∧ o < c.offset first + e.copied ∧ o / 256 = k := by
  unfold CaptureSection.keepsPosition
  cases c.firstCopied e with
  | none => simp
  | some first =>
    have blockPlaces : Config.blockPlaces = 256 := rfl
    dsimp only
    rw [Bool.and_eq_true, Bool.and_eq_true, decide_eq_true_iff, decide_eq_true_iff, decide_eq_true_iff, blockPlaces]
    simp only [Option.some.injEq, exists_and_left, exists_eq_left']
    constructor
    · rintro ⟨⟨some, low⟩, high⟩
      exact ⟨max (c.offset first) (256 * k), by omega, by omega, by omega⟩
    · rintro ⟨o, low, high, rfl⟩
      omega

theorem CaptureSection.keptEntry_chain_get (c : CaptureSection) (e : StationEntry) (k : Nat) :
    (c.keptEntry e).chain[k]? = (e.chain[k]?).map fun b => if c.keepsPosition e k then b else none := by
  rw [CaptureSection.keptEntry_eq]
  simpa using keptChain_get (c.keepsPosition e) 0 e.chain k

/-- Settles O46: the chain of the completed entry is the kept one. -/
theorem completionKeepsTheRun : Obligations.CompletionKeepsTheRun := by
  refine ⟨fun c e => ⟨rfl, Bool.and_eq_true_iff, rfl⟩, fun s p r c before after e f held capture entries others open_
    complete => ?_⟩
  have completed : completes f e = true := by rw [completes, complete, open_]; rfl
  refine ⟨(c.keptEntry (f e)).chain, c.unusedBlocks (f e), ?_, fun k b at_ => ?_, rfl, c.keepsPosition_iff (f e), ?_⟩
  · rw [CaptureSection.keptEntry_eq]
    exact keptChain_length _ _ _
  · rw [CaptureSection.keptEntry_chain_get, at_]
    rfl
  · refine (State.entryEvent_completing held capture entries others completed).trans ?_
    rw [Record.withEntries_readyNotice, List.length_append, List.length_cons, ← Nat.add_assoc, Nat.add_right_comm]
    rfl

/-! ## The bulk copy (R110, R114) -/

theorem SampleMemory.blockPlace_writeChain {m : SampleMemory} (canonical : Memory.wf m = true)
    (chain : List (Option Nat)) (o : Nat) (x : BlockPlace) (b : Nat) {place : Nat} (inside : place < 256) :
    (m.writeChain chain o x).blockPlace b place =
      if chainBlock chain o = some b ∧ place = o % 256 then x else m.blockPlace b place := by
  have place' : o % Config.blockPlaces < 256 := Nat.mod_lt _ (by decide)
  unfold SampleMemory.writeChain
  cases block : chainBlock chain o with
  | none => rw [if_neg (fun h => nomatch h.1)]
  | some b' =>
    by_cases here : some b' = some b ∧ place = o % 256
    · obtain ⟨same, rfl⟩ := here
      cases same
      rw [if_pos ⟨rfl, rfl⟩]
      exact SampleMemory.blockPlace_writeBlock_same _ _ _ canonical
    · rw [if_neg here]
      refine SampleMemory.blockPlace_writeBlock_other x canonical place' inside ?_
      by_contra both
      obtain ⟨same, at_⟩ := not_or.mp both
      exact here ⟨congrArg some (not_not.mp same).symm, not_not.mp at_⟩

theorem find?_station {before after : List StationEntry} {e : StationEntry}
    (others : ∀ x ∈ before, x.station ≠ e.station) :
    (before ++ e :: after).find? (fun x => decide (x.station = e.station)) = some e :=
  List.find?_eq_some_iff_append.mpr ⟨decide_eq_true rfl, before, after, rfl, fun x mem => by simpa using others x mem⟩

theorem Record.entry_at {r : Record} {c : CaptureSection} {before after : List StationEntry} {e : StationEntry}
    (capture : r.capture = some c) (entries : c.entries = before ++ e :: after)
    (others : ∀ x ∈ before, x.station ≠ e.station) : r.entry e.station = some e := by
  rw [Record.entry_of_capture capture, entries, find?_station others]

theorem State.bulkReadAt_eq {s : State} {p : Fin 32} {r : Record} {c : CaptureSection} {e : StationEntry}
    (held : s.record p = some r) (capture : r.capture = some c) (entry : r.entry e.station = some e) :
    s.bulkReadAt p e.station = if e.bulkDone then s else s.bulkRead p e.station c e := by
  unfold State.bulkReadAt
  rw [held]
  dsimp only
  rw [capture, entry]

theorem execBulkCopyRead_eq {s : State} (released : s.pins.rstn = true) (p : Fin 32) (st : Station) :
    exec (.bulkCopyRead p.val st.val) s = .next (s.bulkReadAt p st) :=
  (dif_pos ⟨p.isLt, st.isLt⟩).trans (State.whileReleased_of_released released _)

/-- R114: a slot that holds the index sought is written at its place, and the read is an event at the entry. -/
theorem State.bulkRead_hit {s : State} (p : Fin 32) {st : Station} {c : CaptureSection} {e : StationEntry}
    {slot : RingSlot} (read : s.mem.ringSlot st (indexPlus c.start e.bulkRead) = slot)
    (tagged : slot.tag = some (indexPlus c.start e.bulkRead)) :
    s.bulkRead p st c e =
      State.entryEvent
        { s with
          mem := s.mem.writeChain e.chain (c.offset (indexPlus c.start e.bulkRead)) ⟨slot.filled, slot.samples⟩ } p st
        (bulkStep (indexPlus c.start e.bulkRead) (c.bulkLength e.boundary) (some slot.filled)) := by
  unfold State.bulkRead
  dsimp only
  rw [read, if_pos tagged, if_pos tagged]

/-- R114: any other slot abandons the run. -/
theorem State.bulkRead_miss {s : State} (p : Fin 32) {st : Station} {c : CaptureSection} {e : StationEntry}
    {slot : RingSlot} (read : s.mem.ringSlot st (indexPlus c.start e.bulkRead) = slot)
    (other : slot.tag ≠ some (indexPlus c.start e.bulkRead)) :
    s.bulkRead p st c e =
      s.entryEvent p st (bulkStep (indexPlus c.start e.bulkRead) (c.bulkLength e.boundary) none) := by
  unfold State.bulkRead
  dsimp only
  rw [read, if_neg other, if_neg other]

theorem bulkStep_going {i : Index} {length : Nat} (hit : Option Bool) {e : StationEntry}
    (going : e.directDone = false ∨ e.bulkRead + 1 < length) : completes (bulkStep i length hit) e = false := by
  have incomplete : (bulkStep i length hit e).complete = (decide (length ≤ e.bulkRead + 1) && e.directDone) := by
    cases hit <;> rfl
  rw [completes, incomplete]
  rcases going with direct | more
  · rw [direct, Bool.and_false, Bool.false_and]
  · rw [decide_eq_false (Nat.not_le.mpr more), Bool.false_and, Bool.false_and]

/-- Settles O43: a read is one event at the entry that the copy fills. -/
theorem bulkCopyReadsOneSlot : Obligations.BulkCopyReadsOneSlot := by
  refine ⟨fun m chain o x => ⟨rfl, m.writeChain_rings chain o x, fun canonical b place inside =>
    m.blockPlace_writeChain canonical chain o x b inside⟩, ?_⟩
  intro s p r c before after e released held capture entries others
  have entry := Record.entry_at capture entries others
  rw [execBulkCopyRead_eq released, State.bulkReadAt_eq held capture entry]
  refine ⟨fun done => congrArg Host.Outcome.next (if_pos done), fun more => ?_⟩
  rw [if_neg (more ▸ Bool.false_ne_true)]
  intro i slot copied hit miss
  have hitEq : bulkStep i (c.bulkLength e.boundary) (some slot.filled) = hit := rfl
  have missEq : bulkStep i (c.bulkLength e.boundary) none = miss := rfl
  have read : s.bulkRead p e.station c e =
      if slot.tag = some i then copied.entryEvent p e.station hit else s.entryEvent p e.station miss := by
    by_cases tagged : slot.tag = some i
    · rw [if_pos tagged, ← hitEq]
      exact State.bulkRead_hit p rfl tagged
    · rw [if_neg tagged, ← missEq]
      exact State.bulkRead_miss p rfl tagged
  refine ⟨congrArg Host.Outcome.next read, fun going => congrArg Host.Outcome.next (read.trans ?_)⟩
  refine if_congr Iff.rfl ?_ ?_
  · exact hitEq ▸ State.entryEvent_going (s := copied) held capture entries others (bulkStep_going _ going)
  · exact missEq ▸ State.entryEvent_going held capture entries others (bulkStep_going _ going)

end Sys2Proof.Machine
end

section
/-! PROOFS. Events at the entries of several stations in all records, one after the other (R116, R117). -/

namespace Sys2Proof.Machine

/-! ## Events at the entries of several stations -/

/-- An event at station entries: it keeps the station, depends on the window alone, and leaves a complete entry
complete. -/
structure EventLaw (F : CaptureSection → StationEntry → StationEntry) : Prop where
  station : ∀ c e, (F c e).station = e.station
  window : ∀ c es, F { c with entries := es } = F c
  settled : ∀ c e, e.complete = true → (F c e).complete = true

/-- The event at an entry of one of the stations; another entry stays. -/
def onStations (F : CaptureSection → StationEntry → StationEntry) (stations : List Station) (c : CaptureSection)
    (e : StationEntry) : StationEntry := if e.station ∈ stations then F c e else e

/-- The record after an event at the entry of each station of a list. -/
def Record.eventsOn (F : CaptureSection → StationEntry → StationEntry) (stations : List Station) (r : Record) : Record :=
  match r.capture with
  | none => r
  | some c => r.afterEvents c (onStations F stations c)

/-- R118: an entry after an event. -/
def CaptureSection.settledEntry (c : CaptureSection) (f : StationEntry → StationEntry) (e : StationEntry) : StationEntry :=
  if completes f e then c.keptEntry (f e) else f e

/-- The window and the entry of a station of a record. -/
def Record.found (i : Station) (r : Record) : Option (CaptureSection × StationEntry) :=
  match r.capture, r.entry i with
  | some c, some e => some ({ c with entries := [] }, e)
  | _, _ => none

/-- R118: the blocks that an event at a station's entry returns. -/
def returnedOf (F : CaptureSection → StationEntry → StationEntry) : Option (CaptureSection × StationEntry) → List Nat
  | some (c, e) => if completes (F c) e then c.unusedBlocks (F c e) else []
  | none => []

variable {F : CaptureSection → StationEntry → StationEntry} {c : CaptureSection} {f g h : StationEntry → StationEntry}
  {r : Record} {e : StationEntry} {i j : Station}

theorem completes_of_same (same : f e = e) : completes f e = false := by
  rw [completes, same, Bool.and_not_self]

theorem CaptureSection.settledEntry_of_same (same : f e = e) : c.settledEntry f e = e := by
  rw [CaptureSection.settledEntry, completes_of_same same, if_neg Bool.false_ne_true, same]

theorem CaptureSection.settledEntry_complete : (c.settledEntry f e).complete = (f e).complete := by
  unfold CaptureSection.settledEntry
  split_ifs <;> rfl

theorem CaptureSection.settledEntry_station (station : (f e).station = e.station) :
    (c.settledEntry f e).station = e.station := by
  unfold CaptureSection.settledEntry
  split_ifs
  · exact station
  · exact station

theorem CaptureSection.settledEntry_congr (same : f e = g e) : c.settledEntry f e = c.settledEntry g e := by
  rw [CaptureSection.settledEntry, CaptureSection.settledEntry, completes, completes, same]

/-- R120: the events complete the last entries of a FILLING record. -/
def Record.readies (r : Record) (c : CaptureSection) (f : StationEntry → StationEntry) : Prop :=
  r.state = .filling ∧ (∃ e ∈ c.entries, completes f e = true) ∧ ∀ e ∈ c.entries, (f e).complete = true

theorem Record.afterEvents_eq (r : Record) (c : CaptureSection) (f : StationEntry → StationEntry) :
    r.afterEvents c f =
      { r with
        state := (r.afterEvents c f).state
        capture := some { c with entries := c.entries.map (c.settledEntry f) } } := rfl

theorem Record.afterEvents_ready (ready : r.readies c f) : (r.afterEvents c f).state = .ready := if_pos ready

theorem Record.afterEvents_unready (unready : ¬ r.readies c f) : (r.afterEvents c f).state = r.state := if_neg unready

/-- Events that agree on every entry leave the same record. -/
theorem Record.afterEvents_congr (r : Record) (same : ∀ e ∈ c.entries, f e = g e) :
    r.afterEvents c f = r.afterEvents c g := by
  have entries : c.entries.map (c.settledEntry f) = c.entries.map (c.settledEntry g) :=
    List.map_congr_left fun e mem => CaptureSection.settledEntry_congr (same e mem)
  have readies : r.readies c f ↔ r.readies c g := by
    refine and_congr_right fun _ => and_congr (exists_congr fun e => and_congr_right fun mem => ?_)
      (forall_congr' fun e => forall_congr' fun mem => ?_)
    · rw [completes, completes, same e mem]
    · rw [same e mem]
  have state : (r.afterEvents c f).state = (r.afterEvents c g).state := if_congr readies rfl rfl
  rw [r.afterEvents_eq c f, r.afterEvents_eq c g, state, entries]

/-- Two events in turn are one event, where each entry is changed by one of them at most. -/
theorem Record.afterEvents_afterEvents (r : Record)
    (each : ∀ e ∈ c.entries, (f e = e ∧ h e = g e ∧ (e.complete = true → (g e).complete = true)) ∨
      (g (c.settledEntry f e) = c.settledEntry f e ∧ h e = f e)) :
    (r.afterEvents c f).afterEvents { c with entries := c.entries.map (c.settledEntry f) } g = r.afterEvents c h := by
  have entries : (c.entries.map (c.settledEntry f)).map (c.settledEntry g) = c.entries.map (c.settledEntry h) := by
    rw [List.map_map]
    refine List.map_congr_left fun e mem => ?_
    rcases each e mem with ⟨same, other, -⟩ | ⟨same, other⟩
    · rw [Function.comp_apply, CaptureSection.settledEntry_of_same same, CaptureSection.settledEntry_congr other]
    · rw [Function.comp_apply, CaptureSection.settledEntry_of_same same, CaptureSection.settledEntry_congr other]
  have completing : (∃ e ∈ c.entries, completes h e = true) ↔
      (∃ e ∈ c.entries, completes f e = true) ∨ ∃ e ∈ c.entries.map (c.settledEntry f), completes g e = true := by
    simp only [List.mem_map, exists_exists_and_eq_and]
    rw [← exists_or]
    refine exists_congr fun e => ?_
    rw [← and_or_left]
    refine and_congr_right fun mem => ?_
    rcases each e mem with ⟨same, other, -⟩ | ⟨same, other⟩
    · rw [CaptureSection.settledEntry_of_same same, completes_of_same same, completes, other]
      simp [completes]
    · rw [completes_of_same same, completes, other]
      simp [completes]
  have all : (∀ e ∈ c.entries, (h e).complete = true) ↔
      ∀ e ∈ c.entries.map (c.settledEntry f), (g e).complete = true := by
    rw [List.forall_mem_map]
    refine forall_congr' fun e => forall_congr' fun mem => ?_
    rcases each e mem with ⟨same, other, -⟩ | ⟨same, other⟩
    · rw [CaptureSection.settledEntry_of_same same, other]
    · rw [same, CaptureSection.settledEntry_complete, other]
  have early : (∀ e ∈ c.entries, (f e).complete = true) → ∀ e ∈ c.entries, (h e).complete = true := by
    intro allf e mem
    rcases each e mem with ⟨same, other, keeps⟩ | ⟨-, other⟩
    · exact other ▸ keeps (same ▸ allf e mem)
    · exact other ▸ allf e mem
  have late : (∀ e ∈ c.entries, (h e).complete = true) →
      (¬ ∃ e ∈ c.entries.map (c.settledEntry f), completes g e = true) → ∀ e ∈ c.entries, (f e).complete = true := by
    intro allh none e mem
    rcases each e mem with ⟨same, other, -⟩ | ⟨-, other⟩
    · simp only [List.mem_map, exists_exists_and_eq_and] at none
      have going : completes g (c.settledEntry f e) ≠ true := fun completed => none ⟨e, mem, completed⟩
      rw [CaptureSection.settledEntry_of_same same, completes, ← other, allh e mem] at going
      simpa [same] using going
    · exact other ▸ allh e mem
  have state : ((r.afterEvents c f).afterEvents { c with entries := c.entries.map (c.settledEntry f) } g).state =
      (r.afterEvents c h).state := by
    by_cases first : r.readies c f
    · obtain ⟨filling, ing, allf⟩ := first
      rw [Record.afterEvents_ready (f := h) ⟨filling, completing.mpr (.inl ing), early allf⟩, Record.afterEvents_unready,
        Record.afterEvents_ready ⟨filling, ing, allf⟩]
      rintro ⟨again, -⟩
      rw [Record.afterEvents_ready ⟨filling, ing, allf⟩] at again
      cases again
    · have same := Record.afterEvents_unready first
      by_cases second : r.readies c h
      · obtain ⟨filling, ing, allh⟩ := second
        rw [Record.afterEvents_ready (f := h) ⟨filling, ing, allh⟩, Record.afterEvents_ready]
        refine ⟨same.trans filling, ?_, all.mp allh⟩
        by_contra none
        have allf := late allh none
        exact first ⟨filling, (completing.mp ing).resolve_right none, allf⟩
      · rw [Record.afterEvents_unready second, Record.afterEvents_unready, same]
        rintro ⟨filling, ing, allg⟩
        exact second ⟨same.symm.trans filling, completing.mpr (.inr ing), all.mpr allg⟩
  rw [Record.afterEvents_eq _ _ g, state, r.afterEvents_eq c h, ← entries]
  rfl

/-! ## The record after events at several stations -/

theorem Record.eventsOn_absent (F : CaptureSection → StationEntry → StationEntry) (stations : List Station)
    (absent : r.capture = none) : r.eventsOn F stations = r := by
  rw [Record.eventsOn, absent]

theorem Record.eventsOn_capture (F : CaptureSection → StationEntry → StationEntry) (stations : List Station)
    (capture : r.capture = some c) :
    r.eventsOn F stations = r.afterEvents c (onStations F stations c) := by
  rw [Record.eventsOn, capture]

/-- The capture section after events. -/
theorem Record.eventsOn_section (F : CaptureSection → StationEntry → StationEntry) (stations : List Station)
    (capture : r.capture = some c) :
    (r.eventsOn F stations).capture =
      some { c with
        entries := c.entries.map (c.settledEntry (onStations F stations c)) } := by
  rw [Record.eventsOn_capture F stations capture]
  rfl

theorem onStations_of_mem {stations : List Station} (mem : e.station ∈ stations) : onStations F stations c e = F c e :=
  if_pos mem

theorem onStations_of_not_mem {stations : List Station} (other : e.station ∉ stations) : onStations F stations c e = e :=
  if_neg other

theorem EventLaw.onStations_window (law : EventLaw F) (stations : List Station) (c : CaptureSection)
    (es : List StationEntry) : onStations F stations { c with entries := es } = onStations F stations c := by
  funext e
  unfold onStations
  rw [law.window]

theorem EventLaw.on_station (law : EventLaw F) (c : CaptureSection) (stations : List Station) (e : StationEntry) :
    (onStations F stations c e).station = e.station := by
  unfold onStations
  split_ifs
  · exact law.station c e
  · rfl

theorem Record.eventsOn_stations (law : EventLaw F) (stations : List Station) (r : Record) :
    (r.eventsOn F stations).entries.map StationEntry.station = r.entries.map StationEntry.station := by
  cases capture : r.capture with
  | none => rw [Record.eventsOn_absent F stations capture]
  | some c =>
    rw [Record.entries_of_some (Record.eventsOn_section F stations capture), Record.entries_of_some capture, List.map_map]
    exact List.map_congr_left fun e _ => CaptureSection.settledEntry_station (law.on_station c stations e)

/-- Events at other stations leave the entry of a station. -/
theorem Record.found_eventsOn (law : EventLaw F) {stations : List Station} (other : i ∉ stations) (r : Record) :
    (r.eventsOn F stations).found i = r.found i := by
  cases capture : r.capture with
  | none => rw [Record.eventsOn_absent F stations capture]
  | some c =>
    have section_ := Record.eventsOn_section F stations capture
    have entry : (r.eventsOn F stations).entry i = r.entry i := by
      rw [Record.entry_of_capture section_, Record.entry_of_capture capture, List.find?_map]
      have sameTest : ((fun e : StationEntry => decide (e.station = i)) ∘
          c.settledEntry (onStations F stations c)) = fun e => decide (e.station = i) := by
        funext e
        rw [Function.comp_apply, CaptureSection.settledEntry_station (law.on_station c stations e)]
      rw [sameTest]
      cases found : c.entries.find? (fun e => decide (e.station = i)) with
      | none => rfl
      | some e =>
        have own : e.station = i := of_decide_eq_true (List.find?_some (p := fun e : StationEntry => decide (e.station = i)) found)
        exact congrArg some (CaptureSection.settledEntry_of_same (onStations_of_not_mem (own ▸ other)))
    unfold Record.found
    rw [section_, capture, entry]
    cases r.entry i <;> rfl

/-- Events at one station and then at others are events at all of them. -/
theorem Record.eventsOn_cons (law : EventLaw F) {stations : List Station} (other : i ∉ stations) (r : Record) :
    (r.eventsOn F [i]).eventsOn F stations = r.eventsOn F (i :: stations) := by
  cases capture : r.capture with
  | none => rw [Record.eventsOn_absent F [i] capture, Record.eventsOn_absent F _ capture, Record.eventsOn_absent F _ capture]
  | some c =>
    rw [Record.eventsOn_capture F stations (Record.eventsOn_section F [i] capture), Record.eventsOn_capture F [i] capture,
      Record.eventsOn_capture F _ capture, law.onStations_window stations c (c.entries.map _)]
    refine Record.afterEvents_afterEvents r fun e _ => ?_
    by_cases own : e.station = i
    · refine .inr ⟨?_, ?_⟩
      · have elsewhere : (c.settledEntry (onStations F [i] c) e).station ∉ stations := by
          rw [CaptureSection.settledEntry_station (law.on_station c [i] e), own]
          exact other
        exact if_neg elsewhere
      · rw [onStations_of_mem (own ▸ List.mem_cons_self), onStations_of_mem (List.mem_singleton.mpr own)]
    · refine .inl ⟨onStations_of_not_mem fun mem => own (List.mem_singleton.mp mem), ?_, fun complete => ?_⟩
      · unfold onStations
        simp only [List.mem_cons, own, false_or]
      · unfold onStations
        split_ifs
        · exact law.settled c e complete
        · exact complete

/-! ## One event at an entry -/

theorem Record.found_of_entry (capture : r.capture = some c) (entry : r.entry i = some e) :
    r.found i = some ({ c with entries := [] }, e) := by
  rw [Record.found, capture, entry]

theorem Record.found_of_no_entry (entry : r.entry i = none) : r.found i = none := by
  rw [Record.found, entry]
  cases r.capture <;> rfl

theorem returnedOf_window (law : EventLaw F) (c : CaptureSection) (es : List StationEntry) (e : StationEntry) :
    returnedOf F (some ({ c with entries := es }, e)) =
      if completes (F c) e then c.unusedBlocks (F c e) else [] := by
  rw [returnedOf, law.window]
  rfl

/-- The entries of a station list with one entry of a station. -/
theorem CaptureSection.entries_split (entry : c.entries.find? (fun e => decide (e.station = i)) = some e)
    (distinct : (c.entries.map StationEntry.station).Nodup) :
    ∃ before after, c.entries = before ++ e :: after ∧ e.station = i ∧ ∀ x ∈ before ++ after, x.station ≠ e.station := by
  obtain ⟨own, before, after, split, -⟩ := List.find?_eq_some_iff_append.mp entry
  refine ⟨before, after, split, of_decide_eq_true own, fun x mem same => ?_⟩
  rw [split, List.map_append, List.map_cons] at distinct
  have fresh := (List.nodup_middle.mp distinct).notMem
  rw [← List.map_append] at fresh
  exact fresh (List.mem_map.mpr ⟨x, mem, same⟩)

/-- The record after an event at the only entry of its station. -/
theorem Record.eventsOn_single (capture : r.capture = some c)
    {before after : List StationEntry} (entries : c.entries = before ++ e :: after)
    (others : ∀ x ∈ before ++ after, x.station ≠ e.station) :
    r.eventsOn F [e.station] =
      { r.withEntries c (before ++ c.settledEntry (F c) e :: after) with
        state := if completes (F c) e = true ∧ r.state = .filling ∧ ∀ x ∈ before ++ after, x.complete = true
          then .ready else r.state } := by
  have onOwn : onStations F [e.station] c e = F c e := if_pos List.mem_cons_self
  have onOther : ∀ x ∈ before ++ after, onStations F [e.station] c x = x := fun x mem =>
    if_neg fun same => others x mem (List.mem_singleton.mp same)
  have onBefore := fun x (mem : x ∈ before) => onOther x (List.mem_append_left _ mem)
  have onAfter := fun x (mem : x ∈ after) => onOther x (List.mem_append_right _ mem)
  have kept : ∀ l : List StationEntry, (∀ x ∈ l, onStations F [e.station] c x = x) →
      l.map (c.settledEntry (onStations F [e.station] c)) = l := fun l same =>
    (List.map_congr_left fun x mem => CaptureSection.settledEntry_of_same (same x mem)).trans (List.map_id l)
  have mapped : c.entries.map (c.settledEntry (onStations F [e.station] c)) =
      before ++ c.settledEntry (F c) e :: after := by
    rw [entries, List.map_append, List.map_cons, kept before onBefore, kept after onAfter,
      CaptureSection.settledEntry_congr (g := F c) onOwn]
  have readies : r.readies c (onStations F [e.station] c) ↔
      completes (F c) e = true ∧ r.state = .filling ∧ ∀ x ∈ before ++ after, x.complete = true := by
    have completing : (∃ x ∈ c.entries, completes (onStations F [e.station] c) x = true) ↔
        completes (F c) e = true := by
      have own : completes (onStations F [e.station] c) e = completes (F c) e := by
        rw [completes, completes, onOwn]
      constructor
      · rintro ⟨x, mem, completed⟩
        rw [entries, List.mem_append, List.mem_cons, or_left_comm, ← List.mem_append] at mem
        rcases mem with rfl | mem
        · exact own.symm.trans completed
        · rw [completes_of_same (onOther x mem)] at completed
          cases completed
      · exact fun completed => ⟨e, by rw [entries]; simp, own.trans completed⟩
    have all : (∀ x ∈ c.entries, (onStations F [e.station] c x).complete = true) ↔
        (F c e).complete = true ∧ ∀ x ∈ before ++ after, x.complete = true := by
      rw [entries]
      constructor
      · refine fun all => ⟨onOwn ▸ all e (by simp), fun x mem => ?_⟩
        rw [← onOther x mem]
        refine all x ?_
        rw [List.mem_append] at mem ⊢
        exact mem.imp id (List.mem_cons_of_mem e)
      · rintro ⟨own, rest⟩ x mem
        rw [List.mem_append, List.mem_cons, or_left_comm, ← List.mem_append] at mem
        rcases mem with rfl | mem
        · exact onOwn.symm ▸ own
        · exact (onOther x mem).symm ▸ rest x mem
    unfold Record.readies
    rw [completing, all]
    refine ⟨fun ⟨filling, completed, _, rest⟩ => ⟨completed, filling, rest⟩, fun ⟨completed, filling, rest⟩ =>
      ⟨filling, completed, (Bool.and_eq_true_iff.mp completed).1, rest⟩⟩
  have state : (r.eventsOn F [e.station]).state =
      if completes (F c) e = true ∧ r.state = .filling ∧ ∀ x ∈ before ++ after, x.complete = true
        then .ready else r.state := by
    rw [Record.eventsOn_capture F _ capture]
    exact if_congr readies rfl rfl
  rw [← state, Record.eventsOn_capture F _ capture, Record.afterEvents_eq, mapped]
  rfl

/-- What an event at a station's entry of one record makes of the event table and of the free list. -/
structure Evented (F : CaptureSection → StationEntry → StationEntry) (i : Station) (p : Fin 32) (s t : State) : Prop where
  record : ∀ q, t.record q = if q = p then (s.record p).map (Record.eventsOn F [i]) else s.record q
  free : t.capture.freeList = s.capture.freeList ++ returnedOf F ((s.record p).bind (Record.found i))
  map : t.capture.map = s.capture.map
  number : t.capture.nextNumber = s.capture.nextNumber

theorem Evented.of_untouched {s : State} {p : Fin 32} (record : (s.record p).map (Record.eventsOn F [i]) = s.record p)
    (found : (s.record p).bind (Record.found i) = none) : Evented F i p s s where
  record q := by
    split_ifs with same
    · rw [record, same]
    · rfl
  free := by rw [found]; exact (List.append_nil _).symm
  map := rfl
  number := rfl

theorem Evented.of_setRecord {s t : State} {p : Fin 32} {blocks : List Nat} (held : s.record p = some r)
    (changed : t.capture = ((s.setRecord p (some (r.eventsOn F [i]))).returnBlocks blocks).capture)
    (returned : returnedOf F (r.found i) = blocks) : Evented F i p s t where
  record q := by
    have same : t.record q = (s.setRecord p (some (r.eventsOn F [i]))).record q := by
      rw [State.record, changed]
      rfl
    rw [same, State.setRecord_record, held]
    rfl
  free := by
    rw [changed, held, Option.bind_some, returned]
    rfl
  map := by rw [changed]; rfl
  number := by rw [changed]; rfl

theorem Record.found_none_of_absent (absent : r.capture = none) : r.found i = none := by
  rw [Record.found, absent]

theorem Record.eventsOn_of_no_entry (capture : r.capture = some c) (entry : r.entry i = none) :
    r.eventsOn F [i] = r := by
  rw [Record.entry_of_capture capture, List.find?_eq_none] at entry
  rw [Record.eventsOn_capture F _ capture]
  refine (Record.afterEvents_congr (g := id) r fun e mem => onStations_of_not_mem fun own => ?_).trans
    (r.afterEvents_id c capture)
  exact entry e mem (decide_eq_true (List.mem_singleton.mp own))

/-- R118, R120: an event at a station's entry, in a record whose entries are of different stations. -/
theorem State.entryEvent_evented (law : EventLaw F) {s : State} {p : Fin 32} (held : s.record p = some r)
    (capture : r.capture = some c) (distinct : (r.entries.map StationEntry.station).Nodup) :
    Evented F i p s (s.entryEvent p i (F c)) := by
  rw [Record.entries_of_some capture] at distinct
  cases entry : r.entry i with
  | none =>
    have noEntry : ∀ e ∈ c.entries, e.station = i → F c e = e := by
      rw [Record.entry_of_capture capture, List.find?_eq_none] at entry
      exact fun e mem own => absurd (decide_eq_true own) (entry e mem)
    have same : r.withEntries c c.entries = r := by
      unfold Record.withEntries
      rw [← capture]
    refine Evented.of_setRecord (blocks := []) held ?_ (congrArg _ (Record.found_of_no_entry entry))
    rw [State.entryEvent_of_capture held capture, c.changeEntry_id i (F c) c.entries noEntry, same,
      Record.eventsOn_of_no_entry capture entry]
    rfl
  | some e =>
    have foundEntry := entry
    rw [Record.entry_of_capture capture] at foundEntry
    obtain ⟨before, after, entries, rfl, others⟩ := CaptureSection.entries_split foundEntry distinct
    have first := fun x (mem : x ∈ before) => others x (List.mem_append_left _ mem)
    have returned : returnedOf F (r.found e.station) = if completes (F c) e then c.unusedBlocks (F c e) else [] := by
      rw [Record.found_of_entry capture entry, returnedOf_window law]
    refine Evented.of_setRecord held ?_ returned
    rw [Record.eventsOn_single capture entries others]
    by_cases completed : completes (F c) e = true
    · have settled : c.settledEntry (F c) e = c.keptEntry (F c e) := if_pos completed
      rw [State.entryEvent_completing held capture entries first completed, if_pos completed, settled]
      by_cases last : r.state = .filling ∧ ∀ x ∈ before ++ after, x.complete = true
      · rw [if_pos last, if_pos ⟨completed, last⟩, State.request_capture]
      · rw [if_neg last, if_neg fun all => last all.2]
        rfl
    · have settled : c.settledEntry (F c) e = F c e := if_neg completed
      rw [State.entryEvent_going held capture entries first (Bool.not_eq_true _ ▸ completed), if_neg completed, settled,
        if_neg fun all => completed all.1, State.returnBlocks_none]
      rfl

end Sys2Proof.Machine
end

section
/-! PROOFS. Events at the entries of several stations in all records, one after the other: the records, the free list and
what else is observed (R116, R117, log 9). -/

namespace Sys2Proof.Machine

/-- R101: the entries of each record are of different stations. -/
def State.entriesDistinct (s : State) : Prop :=
  ∀ q x, s.record q = some x → (x.entries.map StationEntry.station).Nodup

/-- Events at the entries of some stations in the records of some places. -/
structure SweptPlaces (F : CaptureSection → StationEntry → StationEntry) (i : Station) (places : List (Fin 32))
    (s t : State) : Prop where
  record : ∀ q, t.record q = if q ∈ places then (s.record q).map (Record.eventsOn F [i]) else s.record q
  free : t.capture.freeList =
    s.capture.freeList ++ places.flatMap fun p => returnedOf F ((s.record p).bind (Record.found i))
  map : t.capture.map = s.capture.map
  number : t.capture.nextNumber = s.capture.nextNumber

/-- Events at the entries of some stations in all records. -/
structure Swept (F : CaptureSection → StationEntry → StationEntry) (stations : List Station) (s t : State) : Prop where
  record : ∀ q, t.record q = (s.record q).map (Record.eventsOn F stations)
  free : t.capture.freeList = s.capture.freeList ++ stations.flatMap fun i =>
    allPlaces.flatMap fun p => returnedOf F ((s.record p).bind (Record.found i))
  map : t.capture.map = s.capture.map
  number : t.capture.nextNumber = s.capture.nextNumber

section Sweep

variable {F : CaptureSection → StationEntry → StationEntry} {i : Station} {s t u : State}

theorem State.entriesDistinct.events (law : EventLaw F) (distinct : s.entriesDistinct) {stations : List Station}
    (record : ∀ q, t.record q = (s.record q).map (Record.eventsOn F stations) ∨ t.record q = s.record q) :
    t.entriesDistinct := by
  intro q x held
  rcases record q with changed | same
  · obtain ⟨r, heldr, rfl⟩ := Option.map_eq_some_iff.mp (changed.symm.trans held)
    rw [Record.eventsOn_stations law]
    exact distinct q r heldr
  · exact distinct q x (same.symm.trans held)

theorem SweptPlaces.nil (F : CaptureSection → StationEntry → StationEntry) (i : Station) (s : State) :
    SweptPlaces F i [] s s where
  record _ := rfl
  free := (List.append_nil _).symm
  map := rfl
  number := rfl

theorem SweptPlaces.cons {p : Fin 32} {places : List (Fin 32)} (fresh : p ∉ places) (first : Evented F i p s u)
    (rest : SweptPlaces F i places u t) : SweptPlaces F i (p :: places) s t where
  record q := by
    rw [rest.record, first.record]
    by_cases here : q = p
    · subst here
      rw [if_neg fresh, if_pos rfl, if_pos List.mem_cons_self]
    · simp only [here, if_false, List.mem_cons, false_or]
  free := by
    have others : (places.flatMap fun q => returnedOf F ((u.record q).bind (Record.found i))) =
        places.flatMap fun q => returnedOf F ((s.record q).bind (Record.found i)) :=
      List.flatMap_congr fun q mem => by rw [first.record, if_neg fun (same : q = p) => fresh (same ▸ mem)]
    rw [rest.free, first.free, others, List.flatMap_cons, List.append_assoc]
  map := rest.map.trans first.map
  number := rest.number.trans first.number

theorem Evented.entriesDistinct (law : EventLaw F) {p : Fin 32} (first : Evented F i p s u)
    (distinct : s.entriesDistinct) : u.entriesDistinct := by
  refine distinct.events law (stations := [i]) fun q => ?_
  rw [first.record]
  split_ifs with same
  · exact .inl (same ▸ rfl)
  · exact .inr rfl

theorem Record.found_bind_eventsOn (law : EventLaw F) {stations : List Station} (other : i ∉ stations)
    (x : Option Record) :
    (x.map (Record.eventsOn F stations)).bind (Record.found i) = x.bind (Record.found i) := by
  cases x with
  | none => rfl
  | some r => exact Record.found_eventsOn law other r

theorem Swept.cons (law : EventLaw F) {stations : List Station} (fresh : i ∉ stations)
    (first : SweptPlaces F i allPlaces s u) (rest : Swept F stations u t) : Swept F (i :: stations) s t where
  record q := by
    rw [rest.record, first.record, if_pos (mem_allPlaces q), Option.map_map]
    exact congrArg (fun f => (s.record q).map f) (funext (Record.eventsOn_cons law fresh))
  free := by
    have others : (stations.flatMap fun j => allPlaces.flatMap fun q => returnedOf F ((u.record q).bind (Record.found j))) =
        stations.flatMap fun j => allPlaces.flatMap fun q => returnedOf F ((s.record q).bind (Record.found j)) :=
      List.flatMap_congr fun j mem => List.flatMap_congr fun q _ => by
        have other : j ∉ [i] := fun same => fresh (List.mem_singleton.mp same ▸ mem)
        rw [first.record, if_pos (mem_allPlaces q), Record.found_bind_eventsOn law other]
    rw [rest.free, first.free, others, List.flatMap_cons, List.append_assoc]
  map := rest.map.trans first.map
  number := rest.number.trans first.number

/-! ## The events of one station, and of several -/

variable {β : Type} {obs : State → β} {upd : Station → Option (CaptureSection × StationEntry) → β → β}
  {step : Station → State → Fin 32 → State} {begin_ : State → Station → State}

/-- Each place's event, and what it makes of the part observed. -/
def StepLaw (F : CaptureSection → StationEntry → StationEntry) (step : State → Fin 32 → State) (i : Station)
    (obs : State → β) (upd : Option (CaptureSection × StationEntry) → β → β) : Prop :=
  ∀ u p, u.entriesDistinct →
    Evented F i p u (step u p) ∧ obs (step u p) = upd ((u.record p).bind (Record.found i)) (obs u)

theorem StepLaw.foldl (law : EventLaw F) (each : StepLaw F (step i) i obs (upd i)) :
    ∀ (places : List (Fin 32)) (s : State), places.Nodup → s.entriesDistinct →
      SweptPlaces F i places s (places.foldl (step i) s) ∧ (places.foldl (step i) s).entriesDistinct ∧
        obs (places.foldl (step i) s) =
          places.foldl (fun b p => upd i ((s.record p).bind (Record.found i)) b) (obs s)
  | [], s, _, distinct => ⟨.nil F i s, distinct, rfl⟩
  | p :: places, s, nodup, distinct => by
    obtain ⟨fresh, nodup⟩ := List.nodup_cons.mp nodup
    obtain ⟨first, observed⟩ := each s p distinct
    obtain ⟨rest, after, final⟩ :=
      StepLaw.foldl law each places (step i s p) nodup (first.entriesDistinct law distinct)
    refine ⟨.cons fresh first rest, after, final.trans ?_⟩
    rw [List.foldl_cons, ← observed]
    refine List.foldl_ext _ _ _ fun b q mem => ?_
    rw [first.record, if_neg fun (same : q = p) => fresh (same ▸ mem)]

/-- The events of several stations in turn, each after a step that leaves the capture engine and the observed part
alone. -/
theorem StepLaw.sweep (law : EventLaw F) (quiet : ∀ u i, (begin_ u i).capture = u.capture ∧ obs (begin_ u i) = obs u) :
    ∀ (stations : List Station), (∀ i ∈ stations, StepLaw F (step i) i obs (upd i)) → stations.Nodup → ∀ (s : State),
      s.entriesDistinct →
      Swept F stations s (stations.foldl (fun u i => allPlaces.foldl (step i) (begin_ u i)) s) ∧
        obs (stations.foldl (fun u i => allPlaces.foldl (step i) (begin_ u i)) s) =
          stations.foldl (fun b i => allPlaces.foldl (fun b p => upd i ((s.record p).bind (Record.found i)) b) b) (obs s)
  | [], _, _, s, _ => by
    refine ⟨⟨fun q => ?_, (List.append_nil _).symm, rfl, rfl⟩, rfl⟩
    show s.record q = _
    cases held : s.record q with
    | none => rfl
    | some r =>
      refine congrArg some (Eq.symm ?_)
      cases capture : r.capture with
      | none => exact Record.eventsOn_absent F [] capture
      | some c =>
        rw [Record.eventsOn_capture F [] capture]
        exact (Record.afterEvents_congr (g := id) r fun e _ => onStations_of_not_mem List.not_mem_nil).trans
          (r.afterEvents_id c capture)
  | i :: stations, each, nodup, s, distinct => by
    obtain ⟨fresh, nodup⟩ := List.nodup_cons.mp nodup
    obtain ⟨capture, seen⟩ := quiet s i
    have sameRecord : ∀ q, (begin_ s i).record q = s.record q := fun q => by rw [State.record, State.record, capture]
    have distinctBegun : (begin_ s i).entriesDistinct := fun q x held => distinct q x ((sameRecord q).symm.trans held)
    obtain ⟨first, after, observed⟩ :=
      StepLaw.foldl law (each i List.mem_cons_self) allPlaces (begin_ s i) allPlaces_nodup distinctBegun
    have first' : SweptPlaces F i allPlaces s (allPlaces.foldl (step i) (begin_ s i)) := by
      obtain ⟨record, free, map, number⟩ := first
      simp only [sameRecord] at record free
      rw [capture] at free map number
      exact ⟨record, free, map, number⟩
    obtain ⟨rest, final⟩ := StepLaw.sweep law quiet stations (fun j mem => each j (List.mem_cons_of_mem i mem)) nodup _ after
    refine ⟨.cons law fresh first' rest, final.trans ?_⟩
    simp only [sameRecord, seen] at observed
    rw [List.foldl_cons, ← observed]
    refine List.foldl_ext _ _ _ fun b j mem => List.foldl_ext _ _ _ fun b q _ => ?_
    have other : j ∉ [i] := fun same => fresh (List.mem_singleton.mp same ▸ mem)
    rw [first'.record, if_pos (mem_allPlaces q), Record.found_bind_eventsOn law other]

end Sweep

/-- R110, R118: the blocks returned, station by station and place by place. -/
theorem State.blocksReturned_eq {F : CaptureSection → StationEntry → StationEntry} (law : EventLaw F) (s : State)
    (stations : List Station) :
    s.blocksReturned stations F =
      stations.flatMap fun i => allPlaces.flatMap fun p => returnedOf F ((s.record p).bind (Record.found i)) := by
  refine List.flatMap_congr fun i _ => List.flatMap_congr fun p _ => ?_
  cases s.record p with
  | none => rfl
  | some r =>
    cases capture : r.capture with
    | none => simp only [capture, Option.bind_some, Record.found_none_of_absent capture, returnedOf]
    | some c =>
      cases entry : r.entry i with
      | none => simp only [capture, entry, Option.bind_some, Record.found_of_no_entry entry, returnedOf]
      | some e =>
        simp only [capture, entry, Option.bind_some, Record.found_of_entry capture entry, returnedOf_window law]

/-- The events at the stations of a line are those at every entry of the line. -/
theorem Swept.record_line {F : CaptureSection → StationEntry → StationEntry} {l : Line} {s t : State}
    (swept : Swept F (stationsOf l) s t) {p : Fin 32} {r : Record} {c : CaptureSection} (held : s.record p = some r)
    (capture : r.capture = some c) :
    t.record p = some (r.afterEvents c fun e => if lineOf e.station = l then F c e else e) := by
  rw [swept.record, held]
  refine congrArg some ((Record.eventsOn_capture F _ capture).trans (Record.afterEvents_congr r fun e _ => ?_))
  unfold onStations
  rw [if_congr (mem_stationsOf l e.station) rfl rfl]

theorem Swept.record_absent {F : CaptureSection → StationEntry → StationEntry} {stations : List Station} {s t : State}
    (swept : Swept F stations s t) {p : Fin 32} {r : Record} (held : s.record p = some r) (absent : r.capture = none) :
    t.record p = some r := by
  rw [swept.record, held]
  exact congrArg some (Record.eventsOn_absent F stations absent)

theorem Swept.record_free {F : CaptureSection → StationEntry → StationEntry} {stations : List Station} {s t : State}
    (swept : Swept F stations s t) {p : Fin 32} (free : s.record p = none) : t.record p = none := by
  rw [swept.record, free]
  rfl

end Sys2Proof.Machine
end

section
/-! PROOFS. A line-leave performed at the detector bank (R25, R57, R61, R62, R117). -/

namespace Sys2Proof.Machine

/-! ## The events of a line-leave (R117) -/

theorem lineLostStep_law : EventLaw fun _ => lineLostStep where
  station _ e := by
    unfold lineLostStep
    split_ifs <;> rfl
  window _ _ := rfl
  settled _ e complete := by
    unfold lineLostStep
    rw [if_pos (Bool.and_eq_true_iff.mp complete).2]
    exact complete

theorem State.entryEvent_of_free {s : State} {p : Fin 32} (free : s.record p = none) (st : Station)
    (f : StationEntry → StationEntry) : s.entryEvent p st f = s := by
  unfold State.entryEvent
  rw [free]

theorem State.entryEvent_of_absent {s : State} {p : Fin 32} {r : Record} (held : s.record p = some r)
    (absent : r.capture = none) (st : Station) (f : StationEntry → StationEntry) : s.entryEvent p st f = s := by
  unfold State.entryEvent
  rw [held]
  dsimp only
  rw [absent]

/-- An event that is the same in every window acts on every record of the place. -/
theorem State.entryEvent_evented_all {f : StationEntry → StationEntry} (law : EventLaw fun _ => f) {s : State}
    (distinct : s.entriesDistinct) (p : Fin 32) (i : Station) :
    Evented (fun _ => f) i p s (s.entryEvent p i f) := by
  cases held : s.record p with
  | none =>
    rw [State.entryEvent_of_free held]
    exact .of_untouched (by rw [held]; rfl) (by rw [held]; rfl)
  | some r =>
    cases capture : r.capture with
    | none =>
      rw [State.entryEvent_of_absent held capture]
      refine .of_untouched ?_ ?_
      · rw [held]
        exact congrArg some (Record.eventsOn_absent _ _ capture)
      · rw [held]
        exact Record.found_none_of_absent capture
    | some c => exact State.entryEvent_evented (F := fun _ => f) law held capture (distinct p r held)

theorem State.loseStations_swept {s : State} (distinct : s.entriesDistinct) (l : Line) :
    Swept (fun _ => lineLostStep) (stationsOf l) s ((stationsOf l).foldl State.loseStation s) :=
  (StepLaw.sweep (obs := fun _ => ()) (upd := fun _ _ _ => ()) (begin_ := fun u _ => u)
    (step := fun i u p => u.entryEvent p i lineLostStep) lineLostStep_law (fun _ _ => ⟨rfl, rfl⟩) (stationsOf l)
    (fun i _ _ p ok => ⟨State.entryEvent_evented_all lineLostStep_law ok p i, rfl⟩)
    ((stationsOf_pairwise l).imp fun less => ne_of_lt less) s distinct).1

theorem State.loseStation_untouched (s : State) (i : Station) : (s.loseStation i).untouched = s.untouched :=
  foldl_keeps State.untouched (fun t p => t.entryEvent_untouched p i _) _ _

theorem State.loseStation_mem (s : State) (i : Station) : (s.loseStation i).mem = s.mem :=
  foldl_keeps State.mem (fun t p => t.entryEvent_mem p i _) _ _

theorem State.loseStation_sameEngine (u v : State) (i : Station) (same : u.SameEngine v) :
    (u.loseStation i).SameEngine (v.loseStation i) := by
  refine State.SameEngine.fold (fun a b p engine => ?_) allPlaces u v same
  obtain ⟨ports, b', m, rs, rfl⟩ := engine
  exact ⟨ports, b', m, rs, a.entryEvent_withAside ports b' m rs p i _⟩

/-! ## The detector bank at a line-leave (R25, R57, R61, R62) -/

theorem StationState.lineLeft_eq (x : StationState) :
    x.lineLeft =
      { x with
        confirmed := none, candidate := none
        det := if x.det = .off then .off else .suspended
        detection := if x.det = .off ∨ x.det = .suspended then x.detection else none } := by
  unfold StationState.lineLeft
  dsimp only
  cases x.det <;> simp [StationState.enterSuspended]

theorem State.bankLeft_eq (s : State) (l : Line) :
    s.bankLeft l =
      if (s.bankLine l).switch.isSome then
        State.switchIdleLine ((s.mapStations fun i x => if lineOf i = l then x.lineLeft else x).setBankLine l
          { s.bankLine l with live := false, leaves := (s.bankLine l).leaves - 1 }) l
      else (s.mapStations fun i x => if lineOf i = l then x.lineLeft else x).setBankLine l
        { s.bankLine l with live := false, leaves := (s.bankLine l).leaves - 1 } := by
  unfold State.bankLeft
  dsimp only
  rw [State.setBankLine_bankLine_same]
  rfl

theorem State.bankLeft_withAside (s : State) (l : Line) :
    s.bankLeft l = s.withAside s.ports (s.bankLeft l).bank s.mem (s.bankLeft l).ctrl.reports := by
  rw [State.bankLeft_eq]
  split_ifs <;> rfl

theorem lineBlock_eq (l : Line) : lineBlock l = match l with
    | .a => SwitchBlock.lineA
    | .b => .lineB := by
  cases l <;> rfl

theorem State.bankLeft_ctrl (s : State) (l : Line) :
    (s.bankLeft l).ctrl =
      { s.ctrl with
        reports := s.ctrl.reports ++ if (s.bankLine l).switch.isSome then [⟨lineBlock l, false⟩] else [] } := by
  rw [State.bankLeft_eq]
  split_ifs
  · rfl
  · rw [List.append_nil]
    rfl

theorem State.bankLeft_bankLine (s : State) (l : Line) :
    (s.bankLeft l).bankLine l =
      { s.bankLine l with
        live := false, leaves := (s.bankLine l).leaves - 1
        inUse := if (s.bankLine l).switch.isSome then .shadow else (s.bankLine l).inUse
        switch := none } := by
  rw [State.bankLeft_eq]
  split_ifs with pending
  · exact (State.setBankLine_bankLine_same _ _ _).trans (by rw [State.mapStations_bankLine, State.setBankLine_bankLine_same])
  · rw [State.setBankLine_bankLine_same, ← Option.not_isSome_iff_eq_none.mp pending]

theorem State.bankLeft_bankLine_other (s : State) {l m : Line} (other : m ≠ l) :
    (s.bankLeft l).bankLine m = s.bankLine m := by
  rw [State.bankLeft_eq]
  split_ifs
  · refine (State.setBankLine_bankLine_other _ _ other).trans ?_
    rw [State.mapStations_bankLine, State.setBankLine_bankLine_other _ _ other, State.mapStations_bankLine]
  · rw [State.setBankLine_bankLine_other _ _ other, State.mapStations_bankLine]

/-- R62: a line-leave makes a pending switch with a comparison under the conditions of a line that is not LIVE. -/
theorem State.bankLeft_station_own (s : State) {l : Line} {i : Station} (own : lineOf i = l) :
    (s.bankLeft l).station i =
      if (s.bankLine l).switch.isSome then
        continuity (s.bankOf (s.bankLine l).inUse) s.ctrl.shadow i false (s.station i).lineLeft
      else (s.station i).lineLeft := by
  rw [State.bankLeft_eq]
  split_ifs
  · rw [State.switchIdleLine_station, if_pos own, State.setBankLine_station, State.mapStations_station, if_pos own,
      State.setBankLine_bankLine_same]
    rfl
  · rw [State.setBankLine_station, State.mapStations_station, if_pos own]

theorem State.bankLeft_station_other (s : State) {l : Line} {i : Station} (other : lineOf i ≠ l) :
    (s.bankLeft l).station i = s.station i := by
  rw [State.bankLeft_eq]
  split_ifs
  · rw [State.switchIdleLine_station, if_neg other, State.setBankLine_station, State.mapStations_station, if_neg other]
  · rw [State.setBankLine_station, State.mapStations_station, if_neg other]

/-! ## The line-leave performed -/

theorem State.performLeave_eq (s : State) (l : Line) :
    s.performLeave l = State.postMark ((stationsOf l).foldl State.loseStation (s.bankLeft l))
      ⟨l, false, (((stationsOf l).foldl State.loseStation (s.bankLeft l)).bankLine l).progress, true⟩ := rfl

theorem State.trunk_of_untouched {u v : State} (same : u.untouched = v.untouched) :
    u.trunk = { v.trunk with notice := u.trunk.notice } :=
  congrArg (fun x : State => { x.trunk with notice := u.trunk.notice }) same

theorem State.ctrl_of_untouched {u v : State} (same : u.untouched = v.untouched) :
    u.ctrl = { v.ctrl with flags := u.ctrl.flags, lostFaults := u.ctrl.lostFaults } :=
  congrArg (fun x : State => { x.ctrl with flags := u.ctrl.flags, lostFaults := u.ctrl.lostFaults }) same

theorem State.left_untouched (s : State) (l : Line) :
    ((stationsOf l).foldl State.loseStation (s.bankLeft l)).untouched = (s.bankLeft l).untouched :=
  foldl_keeps State.untouched State.loseStation_untouched _ _

theorem execDetectorLineLeave_eq {s : State} {l : Line} (released : s.pins.rstn = true)
    (reported : 0 < (s.bankLine l).leaves) : exec (.detectorLineLeave l) s = .next (s.performLeave l) :=
  (State.whileReleased_of_released released _).trans
    (congrArg Host.Outcome.next (if_neg (Nat.pos_iff_ne_zero.mp reported)))

/-- Settles O27: the bank's part of the leave, the events at the stations' entries, and the LINE MARK. -/
theorem lineLeaveSuspendsTheLine : Obligations.LineLeaveSuspendsTheLine := by
  intro s l released reported distinct line switches old
  have untouched := s.left_untouched l
  have bank : ((stationsOf l).foldl State.loseStation (s.bankLeft l)).bank = (s.bankLeft l).bank :=
    (congrArg State.bank untouched).trans rfl
  have aside := s.bankLeft_withAside l
  have outside := untouched.trans (congrArg State.untouched aside)
  have distinctLeft : (s.bankLeft l).entriesDistinct := by
    rw [aside]
    exact distinct
  have sweptLeft := State.loseStations_swept distinctLeft l
  have swept : Swept (fun _ => lineLostStep) (stationsOf l) s ((stationsOf l).foldl State.loseStation (s.bankLeft l)) := by
    rw [aside] at sweptLeft ⊢
    exact ⟨sweptLeft.record, sweptLeft.free, sweptLeft.map, sweptLeft.number⟩
  obtain ⟨ports, b, m, rs, told⟩ := State.SameEngine.fold State.loseStation_sameEngine (stationsOf l) s (s.bankLeft l)
    ⟨_, _, _, _, aside⟩
  refine ⟨s.performLeave l, execDetectorLineLeave_eq released reported, fun i own => ?_, fun i other => ?_, ?_,
    fun m other => ?_, ?_, fun p free => swept.record_free free, fun p r held absent => swept.record_absent held absent,
    fun p r c held capture => ?_, swept.map, swept.number, ?_, (congrArg State.pins outside).trans rfl,
    (congrArg State.unitAddress outside).trans rfl, ?_, ?_, ?_,
    (congrArg State.ports outside).trans rfl,
    (congrArg State.assoc outside).trans rfl,
    (congrArg State.channel outside).trans rfl,
    (congrArg State.readout outside).trans rfl⟩
  · intro left
    have own' : (s.performLeave l).station i = (s.bankLeft l).station i := congrArg (fun b => b.stations[i]) bank
    have leftEq : (s.station i).lineLeft = left := (s.station i).lineLeft_eq
    rw [own', State.bankLeft_station_own s own, leftEq]
    by_cases pending : switches = true
    · refine (if_pos pending).trans ((continuity_eq _ _ _ _ _).trans ?_)
      rw [if_neg (Bool.eq_false_iff.not_left.mpr pending)]
      rfl
    · refine (if_neg pending).trans ?_
      rw [if_pos (Bool.eq_false_iff.mpr pending)]
  · exact (congrArg (fun b : DetectorBank => b.stations[i]) bank).trans (State.bankLeft_station_other s other)
  · exact (congrArg (fun b : DetectorBank => b.lines.get l) bank).trans (State.bankLeft_bankLine s l)
  · exact (congrArg (fun b : DetectorBank => b.lines.get m) bank).trans (State.bankLeft_bankLine_other s other)
  · have queue : ((stationsOf l).foldl State.loseStation (s.bankLeft l)).pickQueue = s.pickQueue := by
      refine (congrArg State.pickQueue untouched).trans ?_
      rw [aside]
      rfl
    have progress : (((stationsOf l).foldl State.loseStation (s.bankLeft l)).bankLine l).progress = line.progress := by
      have kept : ((s.bankLeft l).bankLine l).progress = line.progress := by rw [State.bankLeft_bankLine]
      exact (congrArg (fun b : DetectorBank => (b.lines.get l).progress) bank).trans kept
    rw [State.performLeave_eq, progress]
    exact congrArg (fun q => placeMark q _) queue
  · refine (swept.record_line held capture).trans (congrArg some (Record.afterEvents_congr r fun e _ => ?_))
    by_cases own : lineOf e.station = l
    · cases done : e.directDone
      · simp only [lineLostStep, done, own, and_self, if_true, Bool.false_eq_true, if_false]
      · simp only [lineLostStep, done, own, if_true, Bool.true_eq_false, and_false, if_false]
    · simp only [own, false_and, if_false]
  · refine ⟨stationsOf l, mem_stationsOf l, stationsOf_pairwise l, ?_⟩
    intro ended toldFold
    have toldEq : toldFold = (stationsOf l).foldl State.loseStation s := rfl
    rw [toldEq]
    refine ⟨swept.free.trans ?_, ?_⟩
    · exact congrArg (s.capture.freeList ++ ·) (State.blocksReturned_eq lineLostStep_law s (stationsOf l)).symm
    · rw [State.performLeave_eq, told]
      exact ⟨rfl, rfl, rfl⟩
  · rw [State.performLeave_eq, State.postMark_trunk]
    have kept := State.trunk_of_untouched outside
    exact kept
  · refine (State.ctrl_of_untouched untouched).trans ?_
    rw [State.bankLeft_ctrl, lineBlock_eq]
    rfl
  · refine (foldl_keeps State.mem State.loseStation_mem (stationsOf l) (s.bankLeft l)).trans ?_
    rw [aside]
    rfl

end Sys2Proof.Machine
end

section
/-! PROOFS. The direct writes of an instant (R110, R116, R118, R120). -/

namespace Sys2Proof.Machine

/-! ## The event of a direct write at an entry (R116) -/

/-- R116: the instant is written for the entry. -/
def Instant.writes (n : Instant) (c : CaptureSection) (e : StationEntry) : Prop :=
  lineOf e.station = n.line ∧ c.directContains e n.index = true ∧ e.directDone = false

/-- R116: the entry after the instant. -/
def Instant.written (n : Instant) (c : CaptureSection) (e : StationEntry) : StationEntry :=
  if lineOf e.station = n.line ∧ c.directContains e n.index = true ∧ e.directDone = false then
    { e with
      directCount := e.directCount + 1
      filledCount := e.filledCount + (if (n.slot e.station).isNone then 1 else 0)
      testData := e.testData || n.test, directDone := decide (n.index = c.stop) }
  else e

theorem Instant.written_of_writes {n : Instant} {c : CaptureSection} {e : StationEntry} (writes : n.writes c e)
    (x : StationState) :
    n.written c e = directStep n.index c.stop n.test (writtenPlace (n.slot e.station) x).filled e := by
  rw [directStep_slot n e.station]
  exact if_pos writes

theorem Instant.written_of_not_writes {n : Instant} {c : CaptureSection} {e : StationEntry} (stays : ¬ n.writes c e) :
    n.written c e = e := if_neg stays

theorem Instant.written_law (n : Instant) : EventLaw n.written where
  station c e := by
    unfold Instant.written
    split_ifs <;> rfl
  window _ _ := rfl
  settled c e complete := by
    have stays : ¬ n.writes c e := fun writes =>
      Bool.false_ne_true (writes.2.2.symm.trans (Bool.and_eq_true_iff.mp complete).2)
    rw [Instant.written_of_not_writes stays]
    exact complete

/-! ## An event acts on the station's entry alone -/

theorem CaptureSection.changeEntry_congr {c : CaptureSection} {i : Station} {f g : StationEntry → StationEntry} :
    ∀ {es : List StationEntry}, (∀ e, es.find? (fun e => decide (e.station = i)) = some e → f e = g e) →
      c.changeEntry i f es = c.changeEntry i g es
  | [], _ => rfl
  | e :: es, same => by
    unfold CaptureSection.changeEntry
    by_cases own : e.station = i
    · rw [if_pos own, if_pos own, same e (List.find?_cons_of_pos (decide_eq_true own))]
    · rw [if_neg own, if_neg own, CaptureSection.changeEntry_congr fun x found =>
        same x ((List.find?_cons_of_neg (by simpa using own)).trans found)]

theorem State.entryEvent_congr {s : State} {p : Fin 32} {r : Record} {c : CaptureSection} {i : Station}
    {f g : StationEntry → StationEntry} (held : s.record p = some r) (capture : r.capture = some c)
    (same : ∀ e, r.entry i = some e → f e = g e) : s.entryEvent p i f = s.entryEvent p i g := by
  have change : c.changeEntry i f c.entries = c.changeEntry i g c.entries :=
    CaptureSection.changeEntry_congr fun e found => same e ((Record.entry_of_capture capture i).trans found)
  rw [State.entryEvent_of_capture held capture, State.entryEvent_of_capture held capture, change]

theorem Record.entry_station {r : Record} {i : Station} {e : StationEntry} (entry : r.entry i = some e) :
    e.station = i :=
  of_decide_eq_true (List.find?_some (p := fun e : StationEntry => decide (e.station = i)) entry)

theorem Record.entry_mem {r : Record} {i : Station} {e : StationEntry} (entry : r.entry i = some e) : e ∈ r.entries :=
  List.mem_of_find?_eq_some entry

/-- R101: an entry is the one of its station. -/
theorem Record.entry_of_mem {r : Record} {e : StationEntry} (distinct : (r.entries.map StationEntry.station).Nodup)
    (mem : e ∈ r.entries) : r.entry e.station = some e := by
  obtain ⟨before, after, split⟩ := List.append_of_mem mem
  rw [split, List.map_append, List.map_cons] at distinct
  have fresh := (List.nodup_middle.mp distinct).notMem
  rw [Record.entry, split]
  refine find?_station fun x memx same => fresh ?_
  rw [← List.map_append]
  exact List.mem_map.mpr ⟨x, List.mem_append_left _ memx, same⟩

/-- A record whose entry of the station stays. -/
theorem Evented.of_settled {F : CaptureSection → StationEntry → StationEntry} (law : EventLaw F) {s : State} {p : Fin 32}
    {r : Record} {c : CaptureSection} {i : Station} (held : s.record p = some r) (capture : r.capture = some c)
    (distinct : (r.entries.map StationEntry.station).Nodup) (stays : ∀ e, r.entry i = some e → F c e = e) :
    Evented F i p s s := by
  have same : r.eventsOn F [i] = r := by
    rw [Record.eventsOn_capture F _ capture]
    refine (Record.afterEvents_congr (g := id) r fun e mem => ?_).trans (r.afterEvents_id c capture)
    by_cases own : e.station ∈ [i]
    · rw [onStations_of_mem own]
      refine stays e (List.mem_singleton.mp own ▸ Record.entry_of_mem distinct ?_)
      rw [Record.entries_of_some capture]
      exact mem
    · exact onStations_of_not_mem own
  have nothing : returnedOf F (r.found i) = [] := by
    cases entry : r.entry i with
    | none => rw [Record.found_of_no_entry entry]; rfl
    | some e =>
      rw [Record.found_of_entry capture entry, returnedOf_window law, completes_of_same (stays e entry)]
      rfl
  refine ⟨fun q => ?_, ?_, rfl, rfl⟩
  · split_ifs with here
    · rw [here, held]
      exact congrArg some same.symm
    · rfl
  · rw [held, Option.bind_some, nothing, List.append_nil]

theorem Evented.of_same_capture {F : CaptureSection → StationEntry → StationEntry} {i : Station} {p : Fin 32}
    {s u t : State} (events : Evented F i p u t) (same : u.capture = s.capture) : Evented F i p s t := by
  have record : ∀ q, u.record q = s.record q := fun q => by rw [State.record, State.record, same]
  obtain ⟨changed, free, map, number⟩ := events
  simp only [record] at changed free
  rw [same] at free map number
  exact ⟨changed, free, map, number⟩

/-! ## A direct write at one place (R116) -/

/-- The capture blocks without the rings. -/
def SampleMemory.blocksOnly (m : SampleMemory) : SampleMemory := ⟨[], m.blocks⟩

theorem SampleMemory.blocksOnly_writeChain (m : SampleMemory) (chain : List (Option Nat)) (o : Nat) (x : BlockPlace) :
    (m.writeChain chain o x).blocksOnly = m.blocksOnly.writeChain chain o x := by
  unfold SampleMemory.writeChain
  cases chainBlock chain o <;> rfl

theorem SampleMemory.blocksOnly_wf {m : SampleMemory} (wf : Memory.wf m = true) : Memory.wf m.blocksOnly = true :=
  Bool.and_eq_true_iff.mpr ⟨rfl, (Memory.wf_blocks wf :)⟩

/-- R116: the capture blocks after the direct write for a station in one record. -/
def Instant.writeBlocks (n : Instant) (s : State) (i : Station) (found : Option (CaptureSection × StationEntry))
    (m : SampleMemory) : SampleMemory :=
  match found with
  | some (c, e) =>
    if c.directContains e n.index = true ∧ e.directDone = false then
      m.writeChain e.chain (c.offset n.index) (writtenPlace (n.slot i) (s.station i))
    else m
  | none => m

theorem State.directWriteAt_entry {u : State} {p : Fin 32} {r : Record} {c : CaptureSection} {i : Station}
    {e : StationEntry} (n : Instant) (x : BlockPlace) (held : u.record p = some r) (capture : r.capture = some c)
    (entry : r.entry i = some e) :
    u.directWriteAt n i x p =
      if c.directContains e n.index = true ∧ e.directDone = false then
        State.entryEvent { u with mem := u.mem.writeChain e.chain (c.offset n.index) x } p i
          (directStep n.index c.stop n.test x.filled)
      else u := by
  unfold State.directWriteAt
  rw [held]
  dsimp only
  rw [capture, entry]
  simp only [Bool.and_eq_true, Bool.not_eq_true']

theorem State.directWriteAt_absent {u : State} {p : Fin 32} {r : Record} (n : Instant) (i : Station) (x : BlockPlace)
    (held : u.record p = some r) (absent : r.capture = none) : u.directWriteAt n i x p = u := by
  unfold State.directWriteAt
  rw [held]
  dsimp only
  rw [absent]

theorem State.directWriteAt_no_entry {u : State} {p : Fin 32} {r : Record} {i : Station} (n : Instant) (x : BlockPlace)
    (held : u.record p = some r) (entry : r.entry i = none) : u.directWriteAt n i x p = u := by
  unfold State.directWriteAt
  rw [held]
  dsimp only
  rw [entry]
  cases r.capture <;> rfl

theorem State.directWriteAt_law (s : State) (n : Instant) {i : Station} (own : lineOf i = n.line) :
    StepLaw n.written (State.directWriteAt n i (writtenPlace (n.slot i) (s.station i))) i
      (fun u => u.mem.blocksOnly) (n.writeBlocks s i) := by
  intro u p distinct
  cases held : u.record p with
  | none =>
    rw [State.directWriteAt_of_free n i _ held]
    exact ⟨.of_untouched (by rw [held]; rfl) (by rw [held]; rfl), rfl⟩
  | some r =>
    cases capture : r.capture with
    | none =>
      have found : r.found i = none := Record.found_none_of_absent capture
      rw [State.directWriteAt_absent n i _ held capture, Option.bind_some, found]
      refine ⟨.of_untouched ?_ ?_, rfl⟩
      · rw [held]
        exact congrArg some (Record.eventsOn_absent _ _ capture)
      · rw [held]
        exact found
    | some c =>
      cases entry : r.entry i with
      | none =>
        rw [State.directWriteAt_no_entry n _ held entry, Option.bind_some, Record.found_of_no_entry entry]
        exact ⟨.of_settled n.written_law held capture (distinct p r held)
          (fun e found => nomatch entry.symm.trans found), rfl⟩
      | some e =>
        have station := Record.entry_station entry
        rw [State.directWriteAt_entry n _ held capture entry, Option.bind_some, Record.found_of_entry capture entry]
        by_cases writes : c.directContains e n.index = true ∧ e.directDone = false
        · have writesHere : n.writes c e := ⟨station ▸ own, writes⟩
          have same : ∀ x, r.entry i = some x →
              directStep n.index c.stop n.test (writtenPlace (n.slot i) (s.station i)).filled x = n.written c x := by
            intro x found
            cases entry.symm.trans found
            rw [n.written_of_writes writesHere (s.station i), station]
          have event := State.entryEvent_congr
            (s := { u with mem := u.mem.writeChain e.chain (c.offset n.index) (writtenPlace (n.slot i) (s.station i)) })
            held capture same
          rw [if_pos writes, event]
          have evented := State.entryEvent_evented (i := i)
            (s := { u with mem := u.mem.writeChain e.chain (c.offset n.index) (writtenPlace (n.slot i) (s.station i)) })
            n.written_law held capture (distinct p r held)
          refine ⟨.of_same_capture evented rfl, ?_⟩
          dsimp only
          rw [State.entryEvent_mem, SampleMemory.blocksOnly_writeChain]
          exact (if_pos writes).symm
        · rw [if_neg writes]
          refine ⟨.of_settled n.written_law held capture (distinct p r held) fun x found => ?_, (if_neg writes).symm⟩
          cases entry.symm.trans found
          exact n.written_of_not_writes fun all => writes all.2

/-! ## The direct writes of an instant -/

/-- The requests and the ring write of a station's part, which come before its direct writes. -/
def State.beforeWrites (n : Instant) (s u : State) (i : Station) : State :=
  { u.requestAll ((s.flowOf n i).changeNotice n i).toList with
    mem := u.mem.writeRing i n.index (n.ringSlotOf i (s.station i)) }

theorem State.stationEffects_fold (n : Instant) (s u : State) (i : Station) :
    u.stationEffects n s.station (s.flowOf n) i =
      allPlaces.foldl (State.directWriteAt n i (writtenPlace (n.slot i) (s.station i))) (State.beforeWrites n s u i) :=
  State.stationEffects_eq _ _ _ _ _

/-- R116: the records, the free list and the capture blocks after the stations' parts of an instant. -/
theorem State.stationEffects_swept (n : Instant) (s u : State) (distinct : u.entriesDistinct) :
    Swept n.written (stationsOf n.line) u
      ((stationsOf n.line).foldl (State.stationEffects n s.station (s.flowOf n)) u) ∧
    ((stationsOf n.line).foldl (State.stationEffects n s.station (s.flowOf n)) u).mem.blocksOnly =
      (stationsOf n.line).foldl (fun m i => allPlaces.foldl
        (fun m p => n.writeBlocks s i ((u.record p).bind (Record.found i)) m) m) u.mem.blocksOnly := by
  have swept := StepLaw.sweep (begin_ := State.beforeWrites n s)
    (step := fun i => State.directWriteAt n i (writtenPlace (n.slot i) (s.station i)))
    (obs := fun u => u.mem.blocksOnly) (upd := n.writeBlocks s) n.written_law
    (fun v i => ⟨State.requestAll_capture _ _, rfl⟩) (stationsOf n.line)
    (fun i mem => State.directWriteAt_law s n ((mem_stationsOf n.line i).mp mem))
    ((stationsOf_pairwise n.line).imp fun less => ne_of_lt less) u distinct
  have effects : State.stationEffects n s.station (s.flowOf n) = fun v i =>
      allPlaces.foldl (State.directWriteAt n i (writtenPlace (n.slot i) (s.station i))) (State.beforeWrites n s v i) :=
    funext fun v => funext fun i => State.stationEffects_fold n s v i
  rw [effects]
  exact swept

theorem State.postPick_capture (s : State) (p : Pick) : (s.postPick p).capture = s.capture := by
  unfold State.postPick
  split_ifs
  · rfl
  · exact State.report_capture _ _ _

theorem State.takeWhole_swept (s : State) (n : Instant) (distinct : s.entriesDistinct) :
    Swept n.written (stationsOf n.line) s (s.takeWhole n) ∧
    (s.takeWhole n).mem.blocksOnly = (stationsOf n.line).foldl (fun m i => allPlaces.foldl
      (fun m p => n.writeBlocks s i ((s.record p).bind (Record.found i)) m) m) s.mem.blocksOnly := by
  have begunFrame := (s.withoutInstant n).bankInstant_frame n
  have begunCapture : ((s.withoutInstant n).bankInstant n).capture = s.capture := (congrArg State.capture begunFrame).trans rfl
  have begunMem : ((s.withoutInstant n).bankInstant n).mem = s.mem := (congrArg State.mem begunFrame).trans rfl
  have begunRecord : ∀ q, ((s.withoutInstant n).bankInstant n).record q = s.record q := fun q => by
    rw [State.record, State.record, begunCapture]
  obtain ⟨⟨record, free, map, number⟩, blocks⟩ := State.stationEffects_swept n s ((s.withoutInstant n).bankInstant n)
    fun q x held => distinct q x ((begunRecord q).symm.trans held)
  simp only [begunRecord, begunCapture, begunMem] at record free map number blocks
  have capture : (s.takeWhole n).capture = ((stationsOf n.line).foldl
      (State.stationEffects n s.station (s.flowOf n)) ((s.withoutInstant n).bankInstant n)).capture := by
    rw [State.takeWhole_bankFirst]
    exact foldl_keeps State.capture State.postPick_capture (s.picksOf n) _
  have mem : (s.takeWhole n).mem = ((stationsOf n.line).foldl
      (State.stationEffects n s.station (s.flowOf n)) ((s.withoutInstant n).bankInstant n)).mem := by
    rw [State.takeWhole_bankFirst]
    exact foldl_keeps State.mem State.postPick_mem (s.picksOf n) _
  rw [mem]
  refine ⟨⟨fun q => ?_, ?_, ?_, ?_⟩, blocks⟩
  · rw [← record, State.record, capture]
    rfl
  · rw [capture, free]
  · rw [capture, map]
  · rw [capture, number]

/-! ## The places written -/

theorem foldl_keeps_on {α σ : Type} {P : σ → Prop} {f : σ → α → σ} : ∀ {as : List α},
    (∀ a ∈ as, ∀ m, P m → P (f m a)) → ∀ {m : σ}, P m → P (as.foldl f m)
  | [], _, _, holds => holds
  | a :: _, keeps, m, holds =>
    foldl_keeps_on (fun b mem => keeps b (List.mem_cons_of_mem a mem)) (keeps a List.mem_cons_self m holds)

/-- One element of the list makes the predicate hold, and the others keep it. -/
theorem foldl_establishes {α σ : Type} {P Q : σ → Prop} {f : σ → α → σ} {a : α} : ∀ {as : List α},
    (∀ b ∈ as, ∀ m, Q m → Q (f m b)) → (∀ b ∈ as, ∀ m, P m → P (f m b)) → a ∈ as → (∀ m, Q m → P (f m a)) →
      ∀ {m : σ}, Q m → P (as.foldl f m)
  | b :: as, keepsQ, keepsP, mem, makes, m, start => by
    have keepsP' := fun x (h : x ∈ as) => keepsP x (List.mem_cons_of_mem b h)
    rcases List.mem_cons.mp mem with rfl | mem
    · exact foldl_keeps_on keepsP' (makes m start)
    · exact foldl_establishes (fun x h => keepsQ x (List.mem_cons_of_mem b h)) keepsP' mem makes
        (keepsQ b List.mem_cons_self m start)

theorem disjoint_of_mem_flatMap {α β : Type} {f : α → List β} {as : List α} (nodup : (as.flatMap f).Nodup) {x y : α}
    (memx : x ∈ as) (memy : y ∈ as) (differ : x ≠ y) : List.Disjoint (f x) (f y) := by
  have symmetric : Std.Symm (Function.onFun List.Disjoint f) := ⟨fun _ _ apart _ ina inb => apart inb ina⟩
  exact (List.nodup_flatMap.mp nodup).2.forall memx memy differ

theorem mem_chainBlocks {chain : List (Option Nat)} {o b : Nat} (at_ : chainBlock chain o = some b) :
    b ∈ chainBlocks chain := by
  have get : chain[o / Config.blockPlaces]? = some (some b) := Option.join_eq_some_iff.mp at_
  exact List.mem_filterMap.mpr ⟨some b, List.mem_of_getElem? get, rfl⟩

/-- R110: a block is in one chain of one record. -/
theorem State.blocksAccounted.unique {s : State} (ok : s.blocksAccounted) {p q : Fin 32} {r x : Record} {b : Nat}
    {e d : StationEntry} (heldr : s.record p = some r) (heldx : s.record q = some x) (meme : e ∈ r.entries)
    (memd : d ∈ x.entries) (ine : b ∈ chainBlocks e.chain) (ind : b ∈ chainBlocks d.chain) : e = d := by
  have nodup : s.chainedBlocks.Nodup := (List.nodup_append.mp ((List.Perm.nodup_iff ok).mpr List.nodup_range)).2.1
  rw [State.chainedBlocks_eq] at nodup
  have inr : b ∈ s.blocksAt p := by
    rw [State.blocksAt_some heldr, Record.blocks, ← List.flatMap_def]
    exact List.mem_flatMap.mpr ⟨e, meme, ine⟩
  have inx : b ∈ s.blocksAt q := by
    rw [State.blocksAt_some heldx, Record.blocks, ← List.flatMap_def]
    exact List.mem_flatMap.mpr ⟨d, memd, ind⟩
  by_cases place : p = q
  · subst place
    cases heldr.symm.trans heldx
    by_contra differ
    have one := (List.nodup_flatMap.mp nodup).1 p (mem_allPlaces p)
    rw [State.blocksAt_some heldr, Record.blocks, ← List.flatMap_def] at one
    exact disjoint_of_mem_flatMap one meme memd differ ine ind
  · exact absurd inx (disjoint_of_mem_flatMap nodup (mem_allPlaces p) (mem_allPlaces q) place inr)

/-- R116: a write for a station in one record, where the record's entry of the station is not written. -/
theorem Instant.writeBlocks_cases (n : Instant) (s : State) {i : Station} (own : lineOf i = n.line) (x : Option Record)
    (m : SampleMemory) :
    n.writeBlocks s i (x.bind (Record.found i)) m = m ∨
      ∃ r c e, x = some r ∧ r.capture = some c ∧ e ∈ c.entries ∧ e.station = i ∧ n.writes c e ∧
        n.writeBlocks s i (x.bind (Record.found i)) m =
          m.writeChain e.chain (c.offset n.index) (writtenPlace (n.slot i) (s.station i)) := by
  cases x with
  | none => exact .inl rfl
  | some r =>
    rw [Option.bind_some]
    cases capture : r.capture with
    | none => exact .inl (by rw [Record.found_none_of_absent capture]; rfl)
    | some c =>
      cases entry : r.entry i with
      | none => exact .inl (by rw [Record.found_of_no_entry entry]; rfl)
      | some e =>
        rw [Record.found_of_entry capture entry]
        by_cases writes : c.directContains e n.index = true ∧ e.directDone = false
        · have mem := Record.entry_mem entry
          rw [Record.entries_of_some capture] at mem
          have station := Record.entry_station entry
          exact .inr ⟨r, c, e, rfl, capture, mem, station, ⟨station ▸ own, writes⟩, if_pos writes⟩
        · exact .inl (if_neg writes)

theorem Instant.writeBlocks_wf (n : Instant) (s : State) {i : Station} (own : lineOf i = n.line) (x : Option Record)
    {m : SampleMemory} (wf : Memory.wf m = true) :
    Memory.wf (n.writeBlocks s i (x.bind (Record.found i)) m) = true := by
  rcases n.writeBlocks_cases s own x m with same | ⟨r, c, e, -, -, -, -, -, written⟩
  · rw [same]
    exact wf
  · rw [written]
    exact SampleMemory.writeChain_wf _ _ _ wf

theorem State.entriesDistinct.entry {s : State} (distinct : s.entriesDistinct) {p : Fin 32} {r : Record}
    {c : CaptureSection} {e : StationEntry} (held : s.record p = some r) (capture : r.capture = some c)
    (mem : e ∈ c.entries) : r.entry e.station = some e := by
  refine Record.entry_of_mem (distinct p r held) ?_
  rw [Record.entries_of_some capture]
  exact mem

/-- The sample memory is in canonical form, and a place of a block reads as `x`. -/
def SampleMemory.reads (b place : Nat) (x : BlockPlace) (m : SampleMemory) : Prop :=
  Memory.wf m = true ∧ m.blockPlace b place = x

/-- A write leaves what a place reads as, unless the place is the place of a written entry. -/
theorem Instant.writeBlocks_reads (n : Instant) (s : State) {b place : Nat} {x : BlockPlace} (inside : place < 256)
    (agree : ∀ p r c e, s.record p = some r → r.capture = some c → e ∈ c.entries → n.writes c e →
      chainBlock e.chain (c.offset n.index) = some b → place = c.offset n.index % 256 →
      writtenPlace (n.slot e.station) (s.station e.station) = x)
    {i : Station} (own : lineOf i = n.line) (q : Fin 32) {m : SampleMemory} (reads : m.reads b place x) :
    (n.writeBlocks s i ((s.record q).bind (Record.found i)) m).reads b place x := by
  obtain ⟨wf, value⟩ := reads
  refine ⟨n.writeBlocks_wf s own _ wf, ?_⟩
  rcases n.writeBlocks_cases s own (s.record q) m with same | ⟨r, c, e, held, capture, mem, rfl, writes, write⟩
  · rw [same]
    exact value
  · rw [write, SampleMemory.blockPlace_writeChain wf _ _ _ _ inside]
    split_ifs with hit
    · exact agree q r c e held capture mem writes hit.1 hit.2
    · exact value

/-- R116: the place of a written entry holds what the instant writes for its station. -/
theorem State.takeWhole_written (s : State) (n : Instant) (wf : Memory.wf s.mem = true) (ok : s.blocksAccounted)
    (distinct : s.entriesDistinct) {p : Fin 32} {r : Record} {c : CaptureSection} {e : StationEntry}
    (held : s.record p = some r) (capture : r.capture = some c) (mem : e ∈ c.entries) (writes : n.writes c e) {b : Nat}
    (block : chainBlock e.chain (c.offset n.index) = some b) :
    (s.takeWhole n).mem.blockPlace b (c.offset n.index % 256) = writtenPlace (n.slot e.station) (s.station e.station) := by
  have inside : c.offset n.index % 256 < 256 := Nat.mod_lt _ (by decide)
  have keeps : ∀ i, lineOf i = n.line → ∀ (q : Fin 32) (m : SampleMemory), _ → _ := fun i own q m =>
    n.writeBlocks_reads s (b := b) (x := writtenPlace (n.slot e.station) (s.station e.station)) inside
      (fun q x d f heldx captured memf _ blockf _ => by
        rw [ok.unique heldx held (Record.entries_of_some captured ▸ memf) (Record.entries_of_some capture ▸ mem)
          (mem_chainBlocks blockf) (mem_chainBlocks block)]) own q (m := m)
  have keepsWf : ∀ i, lineOf i = n.line → ∀ (q : Fin 32) (m : SampleMemory), Memory.wf m = true →
      Memory.wf (n.writeBlocks s i ((s.record q).bind (Record.found i)) m) = true :=
    fun i own q m => n.writeBlocks_wf s own (s.record q)
  have makes : ∀ m, Memory.wf m = true →
      (n.writeBlocks s e.station ((s.record p).bind (Record.found e.station)) m).reads b (c.offset n.index % 256)
        (writtenPlace (n.slot e.station) (s.station e.station)) := by
    refine fun m wfm => ⟨keepsWf _ writes.1 p m wfm, ?_⟩
    have write : n.writeBlocks s e.station ((s.record p).bind (Record.found e.station)) m =
        m.writeChain e.chain (c.offset n.index) (writtenPlace (n.slot e.station) (s.station e.station)) := by
      rw [held, Option.bind_some, Record.found_of_entry capture (distinct.entry held capture mem)]
      exact if_pos writes.2
    rw [write, SampleMemory.blockPlace_writeChain wfm _ _ _ _ inside, if_pos ⟨block, rfl⟩]
  suffices written : (s.takeWhole n).mem.blocksOnly.reads b (c.offset n.index % 256)
      (writtenPlace (n.slot e.station) (s.station e.station)) from written.2
  rw [(s.takeWhole_swept n distinct).2]
  refine foldl_establishes (P := SampleMemory.reads b (c.offset n.index % 256) _) (Q := fun m => Memory.wf m = true)
    (a := e.station) (fun i memi m => ?_) (fun i memi m => ?_) ((mem_stationsOf _ _).mpr writes.1) (fun m => ?_)
    (SampleMemory.blocksOnly_wf wf)
  · exact foldl_keeps_on (P := fun m => Memory.wf m = true) fun q _ => keepsWf i ((mem_stationsOf _ _).mp memi) q
  · exact foldl_keeps_on (P := SampleMemory.reads b _ _) fun q _ => keeps i ((mem_stationsOf _ _).mp memi) q
  · exact foldl_establishes (P := SampleMemory.reads b _ _) (Q := fun m => Memory.wf m = true)
      (fun q _ => keepsWf _ writes.1 q) (fun q _ => keeps _ writes.1 q) (mem_allPlaces p) makes

/-- R116: a place that is not the place of a written entry reads as before. -/
theorem State.takeWhole_unwritten (s : State) (n : Instant) (wf : Memory.wf s.mem = true) (distinct : s.entriesDistinct)
    {b place : Nat} (inside : place < 256)
    (apart : ∀ p r c e, s.record p = some r → r.capture = some c → e ∈ c.entries → n.writes c e →
      chainBlock e.chain (c.offset n.index) = some b → c.offset n.index % 256 ≠ place) :
    (s.takeWhole n).mem.blockPlace b place = s.mem.blockPlace b place := by
  suffices unwritten : (s.takeWhole n).mem.blocksOnly.reads b place (s.mem.blockPlace b place) from unwritten.2
  rw [(s.takeWhole_swept n distinct).2]
  refine foldl_keeps_on (P := SampleMemory.reads b place _) (fun i memi m reads => foldl_keeps_on
    (P := SampleMemory.reads b place _) (fun q _ m reads => ?_) reads) ⟨SampleMemory.blocksOnly_wf wf, rfl⟩
  exact n.writeBlocks_reads s inside (fun p r c e held capture mem writes block here =>
    absurd here.symm (apart p r c e held capture mem writes block)) ((mem_stationsOf n.line i).mp memi) q reads

/-- Settles O44: the sweep of the direct writes over the records, and the places that they write. -/
theorem directWritesReachEveryRecord : Obligations.DirectWritesReachEveryRecord := by
  intro s n wf ok distinct written write
  have swept := (s.takeWhole_swept n distinct).1
  refine ⟨fun p free => swept.record_free free, fun p r held absent => swept.record_absent held absent,
    fun p r c held capture => ?_, ⟨stationsOf n.line, mem_stationsOf n.line, stationsOf_pairwise n.line, ?_⟩, swept.map,
    swept.number, fun p r c e held capture mem writes b block => ?_, fun b place inside apart =>
      s.takeWhole_unwritten n wf distinct inside apart⟩
  · refine (swept.record_line held capture).trans (congrArg some (Record.afterEvents_congr r fun e _ => ?_))
    by_cases own : lineOf e.station = n.line
    · exact if_pos own
    · exact (if_neg own).trans (if_neg fun all => own all.1).symm
  · exact swept.free.trans (congrArg (s.capture.freeList ++ ·) (State.blocksReturned_eq n.written_law s _).symm)
  · rw [s.takeWhole_written n wf ok distinct held capture mem writes block]
    cases n.slot e.station <;> rfl

end Sys2Proof.Machine
end

section
/-! PROOFS. DECLARE messages: the record obtained, its number, and the capture reserved (chapter 7). -/

namespace Sys2Proof.Machine

/-! ## Obtaining a record (R103, R105, R106, R107) -/

/-- R105: the first unused event number is one number. -/
theorem State.firstUnused_unique {s : State} {m n : Nat} (first : s.firstUnused m) (second : s.firstUnused n) :
    m = n := by
  obtain ⟨j, -, rfl, heldm, freem⟩ := first
  obtain ⟨k, -, rfl, heldn, freen⟩ := second
  rcases lt_trichotomy j k with less | rfl | less
  · obtain ⟨p, r, held, number⟩ := heldn j less
    exact absurd number (freem p r held)
  · rfl
  · obtain ⟨p, r, held, number⟩ := heldm k less
    exact absurd number (freen p r held)

theorem State.freeRecord_eq {s : State} {p : Fin 32} {r : Record} (held : s.record p = some r) :
    s.freeRecord p = s.withoutRecord p r := by
  have orders : (fun x : Record => if r.order < x.order then { x with order := x.order - 1 } else x) =
      fun x => { x with order := if r.order < x.order then x.order - 1 else x.order } := by
    funext x
    split_ifs <;> rfl
  unfold State.freeRecord
  rw [held]
  dsimp only
  rw [orders]
  rfl

theorem State.oldestReady_of_is {s : State} {p : Fin 32} {r : Record} (oldest : s.oldestReadyIs p r) :
    s.oldestReady = some (p, r) := by
  obtain ⟨held, ready, least⟩ := oldest
  match found : s.oldestReady with
  | none => exact absurd ready (s.oldestReady_eq_none_iff.mp found p r held)
  | some (q, x) =>
    obtain ⟨heldx, readyx, below⟩ := State.oldestReady_some found
    by_cases same : q = p
    · subst same
      cases held.symm.trans heldx
      rfl
    · exact absurd (below p r held ready) (Nat.not_le.mpr (least q x heldx readyx same))

theorem State.freePlace_of_lowest {s : State} {p : Fin 32} (free : s.record p = none)
    (below : ∀ q, q < p → s.record q ≠ none) : s.freePlace = some p :=
  find?_ofFn_eq_some (Option.isNone_iff_eq_none.mpr free)
    fun q less => Option.isNone_eq_false_iff.mpr (Option.ne_none_iff_isSome.mp (below q less))

theorem State.freePlace_of_full {s : State} (full : ∀ p, s.record p ≠ none) : s.freePlace = none :=
  List.find?_eq_none.mpr fun p _ free => full p (Option.isNone_iff_eq_none.mp free)

/-- R106: the place that a declaration obtains, and the state without the record freed for it. -/
theorem State.obtainPlace_of_obtains {s b : State} {p : Fin 32} {recycled : List Nat} (obtains : s.obtains p b recycled) :
    s.obtainPlace = ⟨b, some p, recycled⟩ := by
  unfold State.obtainPlace
  rcases obtains with ⟨free, below, rfl, rfl⟩ | ⟨full, recycle, r, oldest, rfl, rfl⟩
  · rw [State.freePlace_of_lowest free below]
  · rw [State.freePlace_of_full full, recycle, State.oldestReady_of_is oldest, ← State.freeRecord_eq oldest.1]

theorem State.obtains_free {s b : State} {p : Fin 32} {recycled : List Nat} (obtains : s.obtains p b recycled) :
    b.record p = none := by
  have place := State.obtainPlace_of_obtains obtains
  have free := State.obtainPlace_free (s := s) (p := p) (by rw [place])
  rwa [place] at free

/-- R106: obtaining a place changes the event table and the free list alone. -/
theorem State.obtains_frame {s b : State} {p : Fin 32} {recycled : List Nat} (obtains : s.obtains p b recycled) :
    b = { s with capture := { b.capture with map := s.capture.map, nextNumber := s.capture.nextNumber } } := by
  rcases obtains with ⟨-, -, rfl, -⟩ | ⟨-, -, r, -, rfl, -⟩
  · rfl
  · rfl

theorem State.obtainPlace_of_full {s : State} (full : ∀ p, s.record p ≠ none)
    (kept : s.ctrl.settings.retention = .keep ∨ ∀ p r, s.record p = some r → r.state ≠ .ready) :
    s.obtainPlace = ⟨s, none, []⟩ := by
  unfold State.obtainPlace
  rw [State.freePlace_of_full full]
  rcases kept with keep | none
  · rw [keep]
  · rw [s.oldestReady_eq_none_iff.mpr none]
    cases s.ctrl.settings.retention <;> rfl

/-! ## Creating a record (R103, R105, R108, R113) -/

theorem State.createRecord_eq {b : State} {p : Fin 32} {n : Nat} (m : DeclareMsg) (free : b.record p = none)
    (unused : b.firstUnused n) (low : 1 ≤ b.capture.nextNumber) (high : b.capture.nextNumber ≤ 65535) :
    b.createRecord p m =
      { b with capture := { b.capture with
          records := b.capture.records.set p (some
            { number := n, state := .active, order := b.recordCount, anchor := m.anchor
              t0 := m.t0, earliest := m.earliest, generation := m.generation, picks := m.picks
              switchClosed := false, captureAbsent := false, captureDisabled := !m.captureEnable, capture := none })
          map := b.capture.map.set m.slot (.record p)
          nextNumber := if n = 65535 then 1 else n + 1 } } := by
  rw [State.firstUnused_unique unused (State.unusedNumber_spec free low high)]
  rfl

theorem execDeclareMessageTaken_eq {s : State} {m : DeclareMsg} {rest : List Message} (released : s.pins.rstn = true)
    (channel : s.channel = .declare m :: rest) :
    exec .declareMessageTaken s = .next (State.handleDeclare { s with channel := rest } m) := by
  show execDeclareMessageTaken s = _
  have dropped : s.dropMessage = { s with channel := rest } := by rw [State.dropMessage, channel]; rfl
  rw [execDeclareMessageTaken, State.whileReleased_of_released released, dropped, channel]
  rfl

theorem State.handleDeclare_of_obtains {s b : State} {p : Fin 32} {recycled : List Nat} (m : DeclareMsg)
    (obtains : s.obtains p b recycled) : s.handleDeclare m = b.declareAt p m recycled := by
  rw [State.handleDeclare, State.obtainPlace_of_obtains obtains]

/-- R113: the announcements of a declaration come after those of the records freed. -/
theorem State.declareAt_of_disabled {b : State} {p : Fin 32} {m : DeclareMsg} (recycled : List Nat)
    (off : m.captureEnable = false) {r : Record} (created : (b.createRecord p m).record p = some r) :
    b.declareAt p m recycled =
      ((b.createRecord p m).requestAll (recycled.map .eventRecycled)).request (declaredNotice m r) := by
  unfold State.declareAt
  dsimp only
  rw [if_neg (off ▸ Bool.false_ne_true), List.append_nil, State.requestAll_record, created]

/-- Settles O40: without a capture a declaration is its record and its announcements. -/
theorem declarationGetsRecord : Obligations.DeclarationGetsRecord := by
  intro s m rest released channel
  rw [execDeclareMessageTaken_eq released channel]
  refine ⟨fun p b recycled n obtains off unused low high => congrArg Host.Outcome.next ?_, fun full kept =>
    congrArg Host.Outcome.next ?_⟩
  · have frame := State.obtains_frame obtains
    have map : b.capture.map = s.capture.map := (congrArg (fun t : State => t.capture.map) frame).trans rfl
    have next : b.capture.nextNumber = s.capture.nextNumber := (congrArg (fun t : State => t.capture.nextNumber) frame).trans rfl
    have created := State.createRecord_eq m (State.obtains_free obtains) unused (next ▸ low) (next ▸ high)
    rw [State.handleDeclare_of_obtains m obtains,
      State.declareAt_of_disabled recycled off ((b.createRecord_record p p m).trans (if_pos rfl)), created, off, map,
      State.newRecord, ← State.firstUnused_unique unused
        (State.unusedNumber_spec (State.obtains_free obtains) (next ▸ low) (next ▸ high)), off]
    rfl
  · have none : State.obtainPlace { s with channel := rest } = ⟨{ s with channel := rest }, none, []⟩ :=
      State.obtainPlace_of_full full kept
    rw [State.handleDeclare, none]
    rfl

/-! ## Making room (R111) -/

theorem State.makeRoom_of_enough {need : Nat} {b : State} (enough : need ≤ b.capture.freeList.length) (fuel : Nat) :
    State.makeRoom need fuel b = ⟨b, true, []⟩ := by
  cases fuel with
  | zero => rw [State.makeRoom, decide_eq_true enough]
  | succ fuel => exact if_pos enough

theorem State.makeRoom_of_kept {need : Nat} {b : State} (short : b.capture.freeList.length < need)
    (kept : b.ctrl.settings.retention = .keep ∨ ∀ p r, b.record p = some r → r.state ≠ .ready) (fuel : Nat) :
    State.makeRoom need fuel b = ⟨b, false, []⟩ := by
  cases fuel with
  | zero => rw [State.makeRoom, decide_eq_false (Nat.not_le.mpr short)]
  | succ fuel =>
    refine (if_neg (Nat.not_le.mpr short)).trans ?_
    rcases kept with keep | none
    · rw [keep]
    · rw [b.oldestReady_eq_none_iff.mpr none]
      cases b.ctrl.settings.retention <;> rfl

theorem State.makeRoom_of_oldest {need : Nat} {b : State} {p : Fin 32} {r : Record}
    (short : b.capture.freeList.length < need) (recycle : b.ctrl.settings.retention = .recycle)
    (oldest : b.oldestReadyIs p r) (fuel : Nat) :
    State.makeRoom need (fuel + 1) b =
      ⟨(State.makeRoom need fuel (b.withoutRecord p r)).state, (State.makeRoom need fuel (b.withoutRecord p r)).ok,
        r.number :: (State.makeRoom need fuel (b.withoutRecord p r)).recycled⟩ := by
  refine (if_neg (Nat.not_le.mpr short)).trans ?_
  rw [recycle, State.oldestReady_of_is oldest, ← State.freeRecord_eq oldest.1]

theorem State.makeRoom_frame (need : Nat) : ∀ (fuel : Nat) (b : State),
    (b.makeRoom need fuel).state = { b with capture := (b.makeRoom need fuel).state.capture }
  | 0, _ => rfl
  | fuel + 1, b => by
    unfold State.makeRoom
    split_ifs
    · rfl
    · split
      · rfl
      · split
        · rfl
        · rename_i p r found
          have freed := b.freeRecord_frame p
          refine (State.makeRoom_frame need fuel (b.freeRecord p)).trans ?_
          dsimp only
          rw [freed]

/-- R111: making room frees READY records, and so keeps an ACTIVE one, but for its declaration order. -/
theorem State.makeRoom_active {p : Fin 32} {x : Record} (active : x.state = .active) (need : Nat) :
    ∀ (fuel : Nat) (b : State), (∃ order, b.record p = some { x with order := order }) →
      ∃ order, (b.makeRoom need fuel).state.record p = some { x with order := order }
  | 0, _, held => held
  | fuel + 1, b, held => by
    unfold State.makeRoom
    split_ifs
    · exact held
    · split
      · exact held
      · split
        · exact held
        · rename_i q r found
          obtain ⟨heldr, ready, -⟩ := State.oldestReady_some found
          obtain ⟨order, heldx⟩ := held
          refine State.makeRoom_active active need fuel (b.freeRecord q) ?_
          have other : p ≠ q := by
            rintro rfl
            cases heldr.symm.trans heldx
            exact nomatch ready.symm.trans active
          refine ⟨if r.order < order then order - 1 else order, ?_⟩
          rw [State.freeRecord_record _ _ _ _ heldr, if_neg other, heldx, Option.map_some]
          split_ifs <;> rfl

/-! ## The plan of a capture (R109 to R112) -/

theorem State.mem_captureStations (s : State) (m : DeclareMsg) (i : Station) :
    i ∈ s.captureStations m ↔ (m.captureSet = .all ∨ i = m.anchor ∨ i ∈ m.neighbours) ∧
      (s.entryInUse i).enable = true ∧ s.available i = true := by
  unfold State.captureStations
  rw [List.mem_filter, Bool.and_eq_true, Bool.and_eq_true, and_assoc]
  rw [and_iff_right (mem_allStations i)]
  refine and_congr ?_ Iff.rfl
  cases m.captureSet <;> simp

theorem captureWindow_size {m : DeclareMsg} (pre : m.pre ≤ 4095) (post : m.post ≤ 4096) :
    (captureWindow m).size = m.pre + m.post + 1 := by
  have span : (indexPlus m.earliest m.post - indexMinus m.earliest m.pre).toNat = m.pre + m.post := by
    unfold indexPlus indexMinus
    bv_omega
  exact congrArg (· + 1) span

/-- R111: each station has its consecutive blocks of the free list. -/
theorem State.planEntries_eq (s : State) (c : CaptureSection) (free : List Nat) : ∀ (stations : List Station) (k : Nat),
    s.planEntries c stations (free.drop (k * c.blocksPerStation)) =
      (stations.zipIdx k).map fun x => c.newEntry (s.bankLine (lineOf x.1)).progress x.1
        ((free.drop (x.2 * c.blocksPerStation)).take c.blocksPerStation)
  | [], _ => rfl
  | st :: rest, k => by
    have dropped : (free.drop (k * c.blocksPerStation)).drop c.blocksPerStation =
        free.drop ((k + 1) * c.blocksPerStation) := by rw [List.drop_drop, Nat.succ_mul]
    rw [State.planEntries, dropped, State.planEntries_eq s c free rest (k + 1)]
    rfl

/-- R111, R112: the entries planned, each with `each` blocks of the free list, for a window of `n` indices. -/
def State.reservedEntries (s : State) (m : DeclareMsg) (n each : Nat) (stations : List Station) (free : List Nat) :
    List StationEntry :=
  stations.zipIdx.map fun x =>
    { (captureWindow m).newEntry (s.bankLine (lineOf x.1)).progress x.1 ((free.drop (x.2 * each)).take each) with
      directDone := decide (n ≤ (captureWindow m).bulkLength (s.bankLine (lineOf x.1)).progress) }

theorem State.planEntries_window {s t : State} (bank : t.bank = s.bank) {m : DeclareMsg} (pre : m.pre ≤ 4095)
    (post : m.post ≤ 4096) (stations : List Station) (free : List Nat) :
    t.planEntries (captureWindow m) stations free =
      s.reservedEntries m (m.pre + m.post + 1) (captureWindow m).blocksPerStation stations free := by
  have all := State.planEntries_eq t (captureWindow m) free stations 0
  rw [Nat.zero_mul, List.drop_zero] at all
  refine all.trans (List.map_congr_left fun x _ => ?_)
  rw [State.bankLine, bank, CaptureSection.newEntry, captureWindow_size pre post]
  rfl

theorem State.declareAt_of_enabled {b t : State} {p : Fin 32} {m : DeclareMsg} (recycled : List Nat) {more : List Nat}
    (on : m.captureEnable = true) (planned : (b.createRecord p m).planCapture p m = (t, more)) {r : Record}
    (held : t.record p = some r) :
    b.declareAt p m recycled =
      (t.requestAll ((recycled ++ more).map .eventRecycled)).request (declaredNotice m r) := by
  unfold State.declareAt
  dsimp only
  rw [if_pos on, planned, State.requestAll_record, held]

theorem State.captureStations_congr {s t : State} (bank : t.bank = s.bank) (ctrl : t.ctrl = s.ctrl) (m : DeclareMsg) :
    t.captureStations m = s.captureStations m := by
  unfold State.captureStations State.bankOf State.bankLine State.available State.station
  rw [bank, ctrl]

/-- R111: the record with its capture reserved, and the free list without the blocks. -/
theorem State.placeCapture_eq {s : State} {p : Fin 32} {r : Record} (held : s.record p = some r) (m : DeclareMsg)
    (stations : List Station) :
    s.placeCapture p m stations =
      { s with capture := { s.capture with
          freeList := s.capture.freeList.drop (stations.length * (captureWindow m).blocksPerStation)
          records := s.capture.records.set p (some { r with capture := some { captureWindow m with
            entries := s.planEntries (captureWindow m) stations s.capture.freeList } }) } } := by
  unfold State.placeCapture
  rw [held]
  rfl

theorem State.placeCapture_record {s : State} {p : Fin 32} {r : Record} (held : s.record p = some r) (m : DeclareMsg)
    (stations : List Station) :
    (s.placeCapture p m stations).record p = some { r with capture := some { captureWindow m with
      entries := s.planEntries (captureWindow m) stations s.capture.freeList } } := by
  rw [State.placeCapture_eq held]
  exact Vector.getElem_set_self _

theorem State.markAbsent_eq {s : State} {p : Fin 32} {r : Record} (held : s.record p = some r) :
    s.markAbsent p = State.report
      { s with capture := { s.capture with
          records := s.capture.records.set p (some { r with captureAbsent := true }) } } .poolShort 0xFF := by
  unfold State.markAbsent
  rw [held]
  rfl

theorem State.markAbsent_record {s : State} {p : Fin 32} {r : Record} (held : s.record p = some r) :
    (s.markAbsent p).record p = some { r with captureAbsent := true } := by
  rw [State.markAbsent_eq held, State.report_record]
  exact Vector.getElem_set_self _

theorem State.planEntries_length (s : State) (c : CaptureSection) : ∀ (stations : List Station) (free : List Nat),
    (s.planEntries c stations free).length = stations.length
  | [], _ => rfl
  | _ :: rest, _ => congrArg (· + 1) (State.planEntries_length s c rest _)

theorem State.planCapture_of_ok {s : State} {p : Fin 32} {m : DeclareMsg}
    (ok : (s.makeRoom ((s.captureStations m).length * (captureWindow m).blocksPerStation) 32).ok = true) :
    s.planCapture p m =
      ((s.makeRoom ((s.captureStations m).length * (captureWindow m).blocksPerStation) 32).state.placeCapture p m
          (s.captureStations m),
        (s.makeRoom ((s.captureStations m).length * (captureWindow m).blocksPerStation) 32).recycled) := by
  unfold State.planCapture
  dsimp only
  rw [if_pos ok]

theorem State.planCapture_of_short {s : State} {p : Fin 32} {m : DeclareMsg}
    (short : (s.makeRoom ((s.captureStations m).length * (captureWindow m).blocksPerStation) 32).ok = false) :
    s.planCapture p m =
      ((s.makeRoom ((s.captureStations m).length * (captureWindow m).blocksPerStation) 32).state.markAbsent p,
        (s.makeRoom ((s.captureStations m).length * (captureWindow m).blocksPerStation) 32).recycled) := by
  unfold State.planCapture
  dsimp only
  rw [if_neg (short ▸ Bool.false_ne_true)]

/-- Settles O41: the record created, the room made for its blocks, and the plan or its absence. -/
theorem captureReservedWhole : Obligations.CaptureReservedWhole := by
  refine ⟨fun need fuel b => ⟨fun enough => State.makeRoom_of_enough enough fuel, fun short kept =>
    State.makeRoom_of_kept short kept fuel, fun p r short recycle oldest =>
      State.makeRoom_of_oldest short recycle oldest fuel⟩, ?_⟩
  intro s m rest p b recycled number released channel on pre post obtains unused low high stations start stop
    n each fresh created room freed
  have frame := State.obtains_frame obtains
  have map : b.capture.map = s.capture.map := (congrArg (fun t : State => t.capture.map) frame).trans rfl
  have next : b.capture.nextNumber = s.capture.nextNumber :=
    (congrArg (fun t : State => t.capture.nextNumber) frame).trans rfl
  have createdEq : b.createRecord p m = created := by
    rw [State.createRecord_eq m (State.obtains_free obtains) unused (next ▸ low) (next ▸ high), map, on]
    rfl
  have createdBank : created.bank = s.bank := (congrArg State.bank frame).trans rfl
  have createdCtrl : created.ctrl = s.ctrl := (congrArg State.ctrl frame).trans rfl
  have sameStations : created.captureStations m = stations := State.captureStations_congr createdBank createdCtrl m
  have sameEach : (captureWindow m).blocksPerStation = each := by
    rw [CaptureSection.blocksPerStation, captureWindow_size pre post]
    rfl
  have roomEq : created.makeRoom ((created.captureStations m).length * (captureWindow m).blocksPerStation) 32 = room := by
    rw [sameStations, sameEach]
  have roomFrame : room.state = { created with capture := room.state.capture } := State.makeRoom_frame _ _ _
  have roomBank : room.state.bank = s.bank := (congrArg State.bank roomFrame).trans createdBank
  obtain ⟨order, held⟩ : ∃ order, room.state.record p = some { fresh with order := order } :=
    State.makeRoom_active rfl _ _ _ ⟨b.recordCount, Vector.getElem_set_self _⟩
  have handled := State.handleDeclare_of_obtains m obtains
  refine ⟨s.mem_captureStations m, s.captureStations_pairwise m, roomFrame, order, held, fun ok => ?_, fun short => ?_⟩
  · have planned : (b.createRecord p m).planCapture p m = (room.state.placeCapture p m stations, room.recycled) := by
      rw [createdEq, State.planCapture_of_ok (roomEq ▸ ok), roomEq, sameStations]
    have entries := State.planEntries_window roomBank pre post stations room.state.capture.freeList
    rw [sameEach] at entries
    rw [execDeclareMessageTaken_eq released channel, handled,
      State.declareAt_of_enabled recycled on planned (State.placeCapture_record held m stations),
      State.placeCapture_eq held, entries, sameEach, declaredNotice]
    have count : (s.reservedEntries m n each stations room.state.capture.freeList).length = stations.length := by
      rw [State.reservedEntries, List.length_map, List.length_zipIdx]
    rw [Record.entries_of_some rfl]
    dsimp only
    rw [count]
    rfl
  · have planned : (b.createRecord p m).planCapture p m = (room.state.markAbsent p, room.recycled) := by
      rw [createdEq, State.planCapture_of_short (roomEq ▸ short), roomEq]
    rw [execDeclareMessageTaken_eq released channel, handled,
      State.declareAt_of_enabled recycled on planned (State.markAbsent_record held), State.markAbsent_eq held]
    rfl

end Sys2Proof.Machine
end

section
/-! PROOFS. Notices and flags: requests, reports, and the FAULT requests on their way (chapter 9). -/

namespace Sys2Proof.Machine

/-! ## A request (R143) -/

theorem State.noticeDropped_iff (s : State) (n : Notice) :
    s.noticeDropped n = true ↔ s.ctrl.settings.mask.get n.cls = true ∧ 16 ≤ s.trunk.notice.length := by
  rw [State.noticeDropped, Bool.and_eq_true, decide_eq_true_iff]
  rfl

theorem State.offerNotice_masked {s : State} {n : Notice} (off : s.ctrl.settings.mask.get n.cls = false) :
    s.offerNotice n = s := by
  rw [State.offerNotice, off, Bool.false_and, if_neg Bool.false_ne_true]

theorem State.offerNotice_room {s : State} {n : Notice} (on : s.ctrl.settings.mask.get n.cls = true)
    (room : s.trunk.notice.length < 16) :
    s.offerNotice n = { s with trunk := { s.trunk with
      notice := s.trunk.notice ++ [⟨s.unitAddress, n.cls, n.typ, n.body⟩] } } :=
  if_pos (Bool.and_eq_true_iff.mpr ⟨on, decide_eq_true room⟩)

theorem State.not_noticeDropped_masked {s : State} {n : Notice} (off : s.ctrl.settings.mask.get n.cls = false) :
    ¬ s.noticeDropped n = true := fun dropped =>
  Bool.false_ne_true (off.symm.trans ((s.noticeDropped_iff n).mp dropped).1)

theorem State.not_noticeDropped_room {s : State} (n : Notice) (room : s.trunk.notice.length < 16) :
    ¬ s.noticeDropped n = true := fun dropped => Nat.not_le.mpr room ((s.noticeDropped_iff n).mp dropped).2

theorem State.request_masked {s : State} {n : Notice} (off : s.ctrl.settings.mask.get n.cls = false) :
    s.request n = s := (if_neg (State.not_noticeDropped_masked off)).trans (State.offerNotice_masked off)

theorem State.request_room {s : State} {n : Notice} (on : s.ctrl.settings.mask.get n.cls = true)
    (room : s.trunk.notice.length < 16) :
    s.request n = { s with trunk := { s.trunk with
      notice := s.trunk.notice ++ [⟨s.unitAddress, n.cls, n.typ, n.body⟩] } } :=
  (if_neg (State.not_noticeDropped_room n room)).trans (State.offerNotice_room on room)

theorem State.request_full {s : State} {n : Notice} (on : s.ctrl.settings.mask.get n.cls = true)
    (full : 16 ≤ s.trunk.notice.length) : s.request n = s.noticeLost n.cls :=
  if_pos ((s.noticeDropped_iff n).mpr ⟨on, full⟩)

/-! ## A FAULT request judged (R143, R145) -/

theorem State.judgeFault_masked {s : State} {n : Notice} (off : s.ctrl.settings.mask.get n.cls = false) :
    s.judgeFault n = s := (if_neg (State.not_noticeDropped_masked off)).trans (State.offerNotice_masked off)

theorem State.judgeFault_room {s : State} {n : Notice} (on : s.ctrl.settings.mask.get n.cls = true)
    (room : s.trunk.notice.length < 16) :
    s.judgeFault n = { s with trunk := { s.trunk with
      notice := s.trunk.notice ++ [⟨s.unitAddress, n.cls, n.typ, n.body⟩] } } :=
  (if_neg (State.not_noticeDropped_room n room)).trans (State.offerNotice_room on room)

theorem State.judgeFault_full {s : State} {n : Notice} (on : s.ctrl.settings.mask.get n.cls = true)
    (full : 16 ≤ s.trunk.notice.length) :
    s.judgeFault n = { s with ctrl := { s.ctrl with flags := s.ctrl.flags.raise .noticeLost } } :=
  if_pos ((s.noticeDropped_iff n).mpr ⟨on, full⟩)

/-- Judging a FAULT request neither reads nor changes the FAULT requests on their way. -/
theorem State.judgeFault_setLostFaults (s : State) (n : Notice) (lf : List Byte) :
    State.judgeFault { s with ctrl := { s.ctrl with lostFaults := lf } } n =
      { s.judgeFault n with ctrl := { (s.judgeFault n).ctrl with lostFaults := lf } } := by
  unfold State.judgeFault State.offerNotice
  have dropped : State.noticeDropped { s with ctrl := { s.ctrl with lostFaults := lf } } n = s.noticeDropped n := rfl
  rw [dropped]
  by_cases full : s.noticeDropped n = true
  · rw [if_pos full, if_pos full]
    rfl
  · rw [if_neg full, if_neg full]
    dsimp only
    split_ifs <;> rfl

/-! ## The FAULT requests on their way (R143, R145) -/

theorem State.lostFaultArrives_cons {s : State} {detail : Byte} {rest : List Byte}
    (way : s.ctrl.lostFaults = detail :: rest) :
    s.lostFaultArrives =
      State.judgeFault { s with ctrl := { s.ctrl with lostFaults := rest } } (.flagRaised .noticeLost detail) := by
  unfold State.lostFaultArrives
  rw [way]

/-- The requests on their way arrive one after the other. -/
theorem State.lostFaultsArrive_cons {s : State} {detail : Byte} {rest : List Byte}
    (way : s.ctrl.lostFaults = detail :: rest) : s.lostFaultsArrive = s.lostFaultArrives.lostFaultsArrive := by
  have arrives : s.lostFaultArrives =
      { s.judgeFault (.flagRaised .noticeLost detail) with
        ctrl := { (s.judgeFault (.flagRaised .noticeLost detail)).ctrl with lostFaults := rest } } :=
    (State.lostFaultArrives_cons way).trans (State.judgeFault_setLostFaults s _ rest)
  have first := State.judgeFault_setLostFaults s (.flagRaised .noticeLost detail) []
  rw [arrives]
  unfold State.lostFaultsArrive
  rw [way, List.foldl_cons, first]

theorem State.lostFaultsArrive_settings (s : State) : s.lostFaultsArrive.ctrl.settings = s.ctrl.settings := by
  obtain ⟨ns, fl, arrived, -⟩ := s.lostFaultsArrive_spec
  rw [arrived]
  rfl

theorem State.lostFaultsArrive_unit (s : State) : s.lostFaultsArrive.unitAddress = s.unitAddress := by
  obtain ⟨ns, fl, arrived, -⟩ := s.lostFaultsArrive_spec
  rw [arrived]
  rfl

/-! ## A report of a flag's cause (R145) -/

theorem State.report_rise {s : State} {f : Flag} (clear : s.ctrl.flags.get f = false) (detail : Byte) :
    s.report f detail = (s.setFlag f).lostFaultsArrive.judgeFault (.flagRaised f detail) :=
  if_neg (clear ▸ Bool.false_ne_true)

theorem Flags.get_raise (x : Flags) (f g : Flag) : (x.raise f).get g = if g = f then true else x.get g := by
  cases f <;> cases g <;> rfl

/-- Settles O53: requests and reports by the mask and the room of the NOTICE queue. -/
theorem noticesAndFlags : Obligations.NoticesAndFlags := by
  refine ⟨fun n => ?_, rfl, rfl, rfl, rfl, rfl, fun s n _ => ⟨State.request_masked, State.request_room,
    State.request_full⟩, fun s f detail => ?_, fun s none => ⟨?_, s.lostFaultsArrive_nil none⟩, fun s detail rest way =>
      ⟨State.lostFaultsArrive_cons way, fun off => ?_, fun on room => ?_, fun on full => ?_⟩, Flags.get_raise⟩
  · cases n with
    | eventDeclared number noRecord => cases noRecord <;> rfl
    | eventClosed number noRecord switchClosed anchor t0 earliest picks weight after =>
      cases noRecord <;> cases switchClosed <;> cases after <;> rfl
    | statusChange st code previous => cases previous <;> rfl
    | lineChange cause line after test index => cases cause <;> cases test <;> cases index <;> rfl
    | _ => rfl
  · intro arrived
    have mask : arrived.ctrl.settings = s.ctrl.settings := State.lostFaultsArrive_settings _
    have unit : arrived.unitAddress = s.unitAddress := State.lostFaultsArrive_unit _
    refine ⟨fun set => State.report_set s detail set, fun clear off => ?_, fun clear on room => ?_, fun clear on full => ?_⟩
    · exact (State.report_rise clear detail).trans (State.judgeFault_masked (mask ▸ off))
    · rw [← unit]
      exact (State.report_rise clear detail).trans (State.judgeFault_room (mask ▸ on) room)
    · exact (State.report_rise clear detail).trans (State.judgeFault_full (mask ▸ on) full)
  · unfold State.lostFaultArrives
    rw [none]
  · exact (State.lostFaultArrives_cons way).trans (State.judgeFault_masked off)
  · exact (State.lostFaultArrives_cons way).trans (State.judgeFault_room on room)
  · exact (State.lostFaultArrives_cons way).trans (State.judgeFault_full on full)

end Sys2Proof.Machine
end

section
/-! PROOFS. The unit controller's rows: how a command is judged, and the commands over a station range (chapter 10). -/

namespace Sys2Proof.Machine

/-! ## Rows with a parameter field of fixed length (R148, R149, R150) -/

/-- A row with a command code and a parameter length: a command of the row with another length it only refuses. -/
def isFixedRow (i : Instr) (code : Byte) (length : Nat) : Prop :=
  ∃ (mine : Command → Bool) (run : Command → State → State),
    (∀ s, exec i s = s.takeCommand mine fun c t => t.withLength c length (run c t)) ∧
      ∀ c, c.code = code → c.params.length ≠ length → mine c = true

/-- R149: a wrong length is refused with MALFORMED. -/
theorem isFixedRow_malformed {i : Instr} {code : Byte} {length : Nat} (row : isFixedRow i code length) {s : State}
    {c : Command} (can : s.canTake c) (here : c.code = code) (other : c.params.length ≠ length) :
    exec i s = .next (s.answered c .malformed []) := by
  obtain ⟨mine, run, rowEq, own⟩ := row
  rw [rowEq, State.takeCommand_mine can (own c here other), State.withLength_other other, State.dropCommand_answer]

/-- R148: with the REPLY queue full the row takes no command. -/
theorem isFixedRow_full {i : Instr} {code : Byte} {length : Nat} (row : isFixedRow i code length) {s : State}
    (full : 4 ≤ s.trunk.reply.length) : exec i s = .next s := by
  obtain ⟨mine, run, rowEq, -⟩ := row
  rw [rowEq, State.takeCommand_full full]

theorem Command.isBadReset_of_length {c : Command} (code : c.code = 0x11) (other : c.params.length ≠ 1) :
    c.isBadReset = true := by
  have neither : ∀ kind, c.isReset kind = false := fun kind => by
    rw [Command.isReset, decide_eq_false fun params => other (by rw [params]; rfl), Bool.and_false]
  have coded : c.hasCode 0x11 = true := Command.hasCode_of_code code
  rw [Command.isBadReset, neither, neither, coded]
  rfl

theorem Command.isUnknown_of_code {c : Command} (code : c.code = 0 ∨ 0x11 < c.code.toNat) : c.isUnknown = true := by
  rw [Command.isUnknown, Bool.not_eq_true', Bool.and_eq_false_iff, decide_eq_false_iff_not, decide_eq_false_iff_not]
  rcases code with zero | past
  · exact .inl (by rw [zero]; decide)
  · exact .inr (Nat.not_le.mpr past)

theorem Command.isBadReset_of_kind {c : Command} {kind : Byte} (code : c.code = 0x11) (params : c.params = [kind])
    (engine : kind ≠ 1) (full : kind ≠ 2) : c.isBadReset = true := by
  have other : ∀ k, kind ≠ k → c.isReset k = false := fun k differ => by
    have no : c.params ≠ [k] := fun same => differ (List.cons.inj (params.symm.trans same)).1
    rw [Command.isReset, decide_eq_false no, Bool.and_false]
  have coded : c.hasCode 0x11 = true := Command.hasCode_of_code code
  rw [Command.isBadReset, other 1 engine, other 2 full, coded]
  rfl

/-- R166: the rows of the commands of a fixed length. -/
theorem fixedRows : ∀ x ∈ ([(.identify, 0x01, 0), (.readStatus, 0x02, 0), (.readStationStatus, 0x03, 2),
      (.writeSettings, 0x04, 6), (.readSettings, 0x05, 0), (.readTable, 0x07, 4), (.copyBank, 0x08, 0),
      (.switchBank, 0x09, 5), (.cancelSwitch, 0x0A, 0), (.restartDetectors, 0x0B, 2), (.listEvents, 0x0C, 0),
      (.readEvent, 0x0D, 2), (.fetch, 0x0E, 3), (.cancelReadout, 0x0F, 0), (.release, 0x10, 2),
      (.reset, 0x11, 1)] : List (Instr × Byte × Nat)), isFixedRow x.1 x.2.1 x.2.2 := by
  have own : ∀ {code : Byte} {length : Nat} (c : Command), c.code = code → c.params.length ≠ length →
      c.hasCode code.toNat = true := fun c code _ => Command.hasCode_of_code code
  simp only [List.forall_mem_cons]
  exact ⟨⟨_, _, fun s => Eq.refl (execIdentify s), own⟩, ⟨_, _, fun s => Eq.refl (execReadStatus s), own⟩,
    ⟨_, _, fun s => Eq.refl (execReadStationStatus s), own⟩, ⟨_, _, fun s => Eq.refl (execWriteSettings s), own⟩,
    ⟨_, _, fun s => Eq.refl (execReadSettings s), own⟩, ⟨_, _, fun s => Eq.refl (execReadTable s), own⟩,
    ⟨_, _, fun s => Eq.refl (execCopyBank s), own⟩, ⟨_, _, fun s => Eq.refl (execSwitchBank s), own⟩,
    ⟨_, _, fun s => Eq.refl (execCancelSwitch s), own⟩, ⟨_, _, fun s => Eq.refl (execRestartDetectors s), own⟩,
    ⟨_, _, fun s => Eq.refl (execListEvents s), own⟩, ⟨_, _, fun s => Eq.refl (execReadEvent s), own⟩,
    ⟨_, _, fun s => Eq.refl (execFetch s), own⟩, ⟨_, _, fun s => Eq.refl (execCancelReadout s), own⟩,
    ⟨_, _, fun s => Eq.refl (execRelease s), own⟩,
    ⟨_, _, fun s => Eq.refl (execReset s),
      fun c code other => Command.isBadReset_of_length code other⟩, fun _ mem => nomatch mem⟩

/-- Settles O54: each row's way of taking its command. -/
theorem commandsJudgedFirst : Obligations.CommandsJudgedFirst := by
  intro s c fixed
  refine ⟨fun can => ⟨fun code => ?_, fun x mem code other => isFixedRow_malformed (fixedRows x mem) can code other,
    fun kind code params engine full => ?_⟩, fun full => ⟨fun x mem => isFixedRow_full (fixedRows x mem) full,
      ?_, ?_, ?_, ?_⟩⟩
  · show execUnknownCommand s = _
    exact (State.takeCommand_mine can (Command.isUnknown_of_code code) _).trans
      (congrArg Host.Outcome.next (State.dropCommand_answer s c _ _))
  · show execReset s = _
    rw [execReset, State.takeCommand_mine can (Command.isBadReset_of_kind code params engine full),
      State.withLength_same (by rw [params]; rfl), State.dropCommand_answer]
  · show execLoadTable s = _
    exact State.takeCommand_full full _ _
  · show execUnknownCommand s = _
    exact State.takeCommand_full full _ _
  · show execResetEngine s = _
    exact State.takeCommand_full full _ _
  · show execResetFull s = _
    exact State.takeCommand_full full _ _

/-! ## Commands over a station range (R27, R58) -/

theorem State.onRange_eq {s : State} {c : Command} {first last : Byte} (params : c.params = [first, last])
    (run : Nat → Nat → State) :
    s.onRange c run =
      if first.toNat ≤ last.toNat ∧ last.toNat ≤ 63 then run first.toNat last.toNat else s.answer c .noSuchTable [] := by
  have valid : rangeValid first.toNat last.toNat = true ↔ first.toNat ≤ last.toNat ∧ last.toNat ≤ 63 := by
    rw [rangeValid, Bool.and_eq_true, decide_eq_true_iff, decide_eq_true_iff]
  rw [State.onRange, State.withLength_same (by rw [params]; rfl), params]
  exact if_congr valid rfl rfl

theorem stationReport_eq (i : Station) (x : StationState) : stationReport i x =
    [byte i.val,
      (match x.confirmed with
        | some x => byte x.val
        | none => 0x80),
      (match x.unread.head? with
        | some x => byte x.val
        | none => 0xFF)] := by
  unfold stationReport
  cases x.confirmed <;> cases x.unread <;> rfl

theorem StationState.restarted_eq (x : StationState) :
    x.restarted = if x.det ≠ .off ∧ x.det ≠ .suspended then { x with det := .warmup, warm := 0, detection := none }
      else x := by
  unfold StationState.restarted
  cases x.det <;> rfl

/-- Settles O56: the stations of the range, one by one. -/
theorem stationRangeCommands : Obligations.StationRangeCommands := by
  intro s c first last can params
  constructor
  · refine fun outside => ⟨fun code => ?_, fun code => ?_⟩
    · refine (execReadStationStatus_taken can code).trans ?_
      rw [State.onRange_eq params, if_neg outside, State.dropCommand_answer]
    · refine (execRestartDetectors_taken can code).trans ?_
      rw [State.onRange_eq params, if_neg outside, State.dropCommand_answer]
  · intro ascending below inside
    have within : ∀ i : Station, inside i = true ↔ first.toNat ≤ i.val ∧ i.val ≤ last.toNat := fun i => by
      rw [Bool.and_eq_true, decide_eq_true_iff, decide_eq_true_iff]
    refine ⟨fun code => ⟨_, (execReadStationStatus_taken can code).trans (congrArg Host.Outcome.next
      ((State.onRange_eq params _).trans (if_pos ⟨ascending, below⟩))), fun i => ?_, ?_, ?_⟩,
      fun code => ⟨_, (execRestartDetectors_taken can code).trans (congrArg Host.Outcome.next
        ((State.onRange_eq params _).trans (if_pos ⟨ascending, below⟩))), fun i => ?_, ?_, ?_⟩⟩
    · rw [State.answer_of_trunk (s := s) (t := s.dropCommand.removeUnread first.toNat last.toNat) rfl rfl]
      exact ((State.mapStations_station _ _ i).trans (if_congr (within i).symm rfl rfl))
    · rw [State.answer_of_trunk (s := s) (t := s.dropCommand.removeUnread first.toNat last.toNat) rfl rfl]
      rfl
    · rw [State.answer_of_trunk (s := s) (t := s.dropCommand.removeUnread first.toNat last.toNat) rfl rfl,
        State.rangeReport, funext fun i => stationReport_eq i (s.station i)]
      rfl
    · rw [State.answer_of_trunk (s := s) (t := s.dropCommand.restartRange first.toNat last.toNat) rfl rfl]
      refine (State.mapStations_station _ _ i).trans ?_
      by_cases here : inside i = true
      · refine (if_pos ((within i).mp here)).trans ((StationState.restarted_eq _).trans ?_)
        exact if_congr ⟨fun work => ⟨here, work⟩, And.right⟩ rfl rfl
      · exact (if_neg (here ∘ (within i).mpr)).trans (if_neg fun both => here both.1).symm
    · rw [State.answer_of_trunk (s := s) (t := s.dropCommand.restartRange first.toNat last.toNat) rfl rfl]
      rfl
    · rw [State.answer_of_trunk (s := s) (t := s.dropCommand.restartRange first.toNat last.toNat) rfl rfl]
      rfl

end Sys2Proof.Machine
end

section
/-! PROOFS. The trunk port: downlink routing, the arbiter, and the frames that the readout unit stages (chapters 8, 9). -/

namespace Sys2Proof.Machine

/-! ## Downlink (R136 to R139) -/

theorem State.withRx_self {s : State} (empty : s.trunk.rx = []) :
    ({ s with trunk := { s.trunk with rx := [] } } : State) = s := by
  rw [← empty]

/-- R136: one whole frame that arrives at an empty receiver is routed. -/
theorem execDownlinkFrameReceived_whole {s : State} {kind : Byte} {payload : List Byte} (released : s.pins.rstn = true)
    (empty : s.trunk.rx = []) (short : payload.length ≤ 2047) :
    execDownlinkFrameReceived (envelope kind payload) s = .next (s.downlinkFrame ⟨kind, payload⟩) := by
  have found : hunt (s.trunk.rx ++ envelope kind payload) = (some ⟨kind, payload⟩, []) := by
    rw [empty, List.nil_append, ← List.append_nil (envelope kind payload), hunt_envelope kind short]
  simp only [execDownlinkFrameReceived, State.whileReleased_of_released released, found, State.withRx_self empty]

/-- R137: a UNIT COMMAND's address and length. -/
theorem State.unitCommand_cons (s : State) (address code tag : Byte) (params : List Byte) :
    s.unitCommand (address :: code :: tag :: params) =
      if address.toNat = s.unitAddress ∨ address = 31 then s.offerCommand ⟨address, code, tag, params⟩ else s := by
  have group : address.toNat = Config.groupAddress ↔ address = 31 := BitVec.toNat_inj (y := 31)
  exact if_congr (or_congr_right group) rfl rfl

theorem State.unitCommand_short (s : State) {payload : List Byte} (short : payload.length < 3) :
    s.unitCommand payload = s := by
  match payload, short with
  | [], _ | [_], _ | [_, _], _ => rfl

theorem State.fieldCommand_short (s : State) {payload : List Byte} (short : payload.length < 2) :
    s.fieldCommand payload = s := by
  match payload, short with
  | [], _ | [_], _ => rfl

/-- Settles O51: the KIND of the routed frame. -/
theorem downlinkRouted : Obligations.DownlinkRouted := by
  intro s kind payload released empty short
  have routed : exec (.downlinkFrameReceived (envelope kind payload)) s =
      .next (s.downlinkFrame ⟨kind, payload⟩) := execDownlinkFrameReceived_whole released empty short
  rw [routed]
  refine ⟨fun address code tag params unit parts => ?_, fun selector inner rest field parts => ?_,
    fun unit field => congrArg Host.Outcome.next ?_⟩
  · subst unit parts
    exact congrArg Host.Outcome.next (s.unitCommand_cons address code tag params)
  · subst field parts
    rfl
  · unfold State.downlinkFrame
    by_cases isUnit : kind = 0x41
    · exact (if_pos isUnit).trans (s.unitCommand_short (unit isUnit))
    · by_cases isField : kind = 0x42
      · exact (if_neg isUnit).trans ((if_pos isField).trans (s.fieldCommand_short (field isField)))
      · exact (if_neg isUnit).trans (if_neg isField)

/-! ## The uplink transmitter (R141, R142) -/

theorem execArbiterChoice_taken {s : State} (released : s.pins.rstn = true) (ready : s.pins.trdy = true)
    (free : s.trunk.tx = none) : execArbiterChoice s = .next s.arbiterTake := by
  rw [execArbiterChoice, State.whileReleased_of_released released, ready, free]
  rfl

theorem execArbiterChoice_idle {s : State} (released : s.pins.rstn = true)
    (busy : s.pins.trdy = false ∨ s.trunk.tx.isSome = true) : execArbiterChoice s = .next s := by
  rw [execArbiterChoice, State.whileReleased_of_released released]
  refine congrArg Host.Outcome.next (if_neg fun both => ?_)
  obtain ⟨ready, free⟩ := (Bool.and_eq_true_iff).mp both
  rcases busy with withdrawn | sending
  · exact absurd (ready.symm.trans withdrawn) (by decide)
  · rw [Option.isNone_eq_false_iff.mpr sending] at free
    exact absurd free (by decide)

section
variable {s : State}

theorem State.arbiterTake_pass {f : PassFrame} {rest : List PassFrame} (queue : s.trunk.pass = f :: rest) :
    s.arbiterTake = { s with trunk := { s.trunk with pass := rest } }.transmit 0x61 f.payload := by
  rw [State.arbiterTake, queue]

theorem State.arbiterTake_reply (noPass : s.trunk.pass = []) {f : ReplyFrame} {rest : List ReplyFrame}
    (queue : s.trunk.reply = f :: rest) :
    s.arbiterTake = { s with trunk := { s.trunk with reply := rest } }.transmit 0x62 f.payload := by
  rw [State.arbiterTake, noPass, queue]

theorem State.arbiterTake_notice (noPass : s.trunk.pass = []) (noReply : s.trunk.reply = []) {f : NoticeFrame}
    {rest : List NoticeFrame} (queue : s.trunk.notice = f :: rest) :
    s.arbiterTake = { s with trunk := { s.trunk with notice := rest } }.transmit 0x63 f.payload := by
  rw [State.arbiterTake, noPass, noReply, queue]

theorem State.arbiterTake_nothing (noPass : s.trunk.pass = []) (noReply : s.trunk.reply = [])
    (noNotice : s.trunk.notice = []) (nothing : s.trunk.staged = none) : s.arbiterTake = s := by
  rw [State.arbiterTake, noPass, noReply, noNotice, nothing]

end

/-- R130: where the end of a readout leaves its record. -/
theorem State.endReadout_none {s : State} (none' : s.readout.record = none) :
    s.endReadout = s.setReadout
      { s.readout with streaming := false, record := none, current := none, endStaged := false } := by
  rw [State.endReadout, none']

theorem State.endReadout_some {s : State} {p : Fin 32} {r : Record} (named : s.readout.record = some p)
    (held : s.record p = some r) :
    s.endReadout = (s.setRecord p (some { r with state := .ready })).setReadout
      { s.readout with streaming := false, record := none, current := none, endStaged := false } := by
  rw [State.endReadout, named]
  dsimp only
  rw [held]

/-- R129, R130: the frame of the staged place. -/
theorem State.arbiterTake_capture {s : State} (noPass : s.trunk.pass = []) (noReply : s.trunk.reply = [])
    (noNotice : s.trunk.notice = []) {f : CaptureFrame} (staged : s.trunk.staged = some (.capture f)) :
    s.arbiterTake =
      ((s.setStaged none).setReadout (s.readout.counted f.instants.length)).transmit 0x64 f.payload := by
  rw [State.arbiterTake, noPass, noReply, noNotice, staged]

theorem State.arbiterTake_end {s : State} (noPass : s.trunk.pass = []) (noReply : s.trunk.reply = [])
    (noNotice : s.trunk.notice = []) (staged : s.trunk.staged = some .readoutEnd) :
    s.arbiterTake = ((s.setStaged none).endReadout).transmit 0x65 s.readout.endPayload := by
  rw [State.arbiterTake, noPass, noReply, noNotice, staged]

theorem placeBytes_eq (x : BlockPlace) :
    placeBytes x = byte x.filled.toNat :: (be24 x.samples.c1 ++ be24 x.samples.c2 ++ be24 x.samples.c3) := by
  rw [placeBytes]
  cases x.filled <;> rfl

/-- Settles O52: the classes in their order. -/
theorem arbiterServesClassesInOrder : Obligations.ArbiterServesClassesInOrder := by
  refine ⟨fun n => ⟨BitVec.toNat_ofNat n 8, rfl, rfl⟩, fun _ => rfl, rfl, rfl, rfl, fun f => ?_, fun r => ?_,
    fun s => ⟨rfl, rfl⟩, fun s released => ⟨?_,
      fun busy => execArbiterChoice_idle released busy, fun ready free => ?_⟩⟩
  · rw [CaptureFrame.payload, marksByte_three, funext placeBytes_eq]
  · have marks : marksByte [r.overlap, r.cancel] = byte (r.overlap.toNat + 2 * r.cancel.toNat) :=
      congrArg byte (by simp only [List.foldr_cons, List.foldr_nil]; omega)
    rw [Readout.endPayload, marks]
  · exact State.whileReleased_of_released released _
  · have taken : ∀ {t}, s.arbiterTake = t → exec .arbiterChoice s = .next t := fun same =>
      (execArbiterChoice_taken released ready free).trans (congrArg Host.Outcome.next same)
    refine ⟨fun f rest queue => taken (State.arbiterTake_pass queue),
      fun f rest noPass queue => taken (State.arbiterTake_reply noPass queue),
      fun f rest noPass noReply queue => taken (State.arbiterTake_notice noPass noReply queue),
      fun noPass noReply noNotice => ⟨fun f staged => taken (State.arbiterTake_capture noPass noReply noNotice staged),
        fun staged => ⟨fun none' => ?_, fun p r named held => ?_⟩,
        fun nothing => taken (State.arbiterTake_nothing noPass noReply noNotice nothing)⟩⟩
    · refine taken ((State.arbiterTake_end noPass noReply noNotice staged).trans ?_)
      rw [State.endReadout_none (s := s.setStaged none) none']
      rfl
    · refine taken ((State.arbiterTake_end noPass noReply noNotice staged).trans ?_)
      rw [State.endReadout_some (s := s.setStaged none) named held]
      rfl

end Sys2Proof.Machine
end

section
/-! PROOFS. The frames that the readout unit stages (R128, R129). -/

namespace Sys2Proof.Machine

theorem execStageDataFrame_possible {s : State} (released : s.pins.rstn = true) (streaming : s.readout.streaming = true)
    (going : s.readout.endStaged = false) (empty : s.trunk.staged = none) :
    execStageDataFrame s = match s.readout.current with
      | some st => if s.readout.cancel then .next s.stageEnd else s.stageCapture st
      | none => .next s.stageEnd := by
  rw [execStageDataFrame, released, streaming, going, empty]
  exact if_pos rfl

theorem State.readEntry_eq {s : State} {st : Station} {p : Fin 32} {r : Record} {c : CaptureSection} {e : StationEntry}
    (named : s.readout.record = some p) (held : s.record p = some r) (captured : r.capture = some c)
    (entry : r.entry st = some e) : s.readEntry st = some (c, e) := by
  simp only [State.readEntry, named, held, captured, entry]

/-- R128: the instants of a frame, when each of them has a block. -/
theorem SampleMemory.readRun_eq (m : SampleMemory) (chain : List (Option Nat)) : ∀ (n o : Nat),
    (∀ k, k < n → (chainBlock chain (o + k)).isSome = true) →
    m.readRun chain o n =
      some ((List.range n).map fun k => m.blockPlace ((chainBlock chain (o + k)).getD 0) ((o + k) % 256))
  | 0, _, _ => rfl
  | n + 1, o, blocks => by
    obtain ⟨b, block⟩ := Option.isSome_iff_exists.mp (blocks 0 (Nat.succ_pos n))
    have shift : ∀ k, o + 1 + k = o + (k + 1) := fun k => by omega
    have rest := m.readRun_eq chain n (o + 1) fun k low => by
      rw [shift]
      exact blocks (k + 1) (Nat.succ_lt_succ low)
    rw [Nat.add_zero] at block
    rw [SampleMemory.readRun, block, rest, List.range_succ_eq_map, List.map_cons, List.map_map]
    simp only [Option.map_some, Function.comp_def, shift, Nat.add_zero, block, Option.getD_some]
    rfl

/-- R128: the readout after a frame. -/
theorem Readout.advance_eq (r : Readout) (c : CaptureSection) (st : Station) :
    r.advance c st =
      if 64 < r.remaining then { r with nextIndex := indexPlus r.nextIndex 64, remaining := r.remaining - 64 }
      else match r.selection.next c.entries st with
        | some x =>
          { r with current := some x.station, nextIndex := (c.firstCopied x).getD c.start, remaining := x.copied }
        | none =>
          { r with current := none, nextIndex := indexPlus r.nextIndex (min 64 r.remaining), remaining := 0 } := by
  have counted : r.frameCount = min 64 r.remaining := rfl
  unfold Readout.advance
  rw [counted]
  dsimp only
  by_cases more : 64 < r.remaining
  · rw [Nat.min_eq_left more.le, if_pos more, if_neg (Nat.sub_ne_zero_of_lt more)]
  · rw [if_neg more, Nat.min_eq_right (Nat.le_of_not_lt more), if_pos (Nat.sub_self _)]
    cases r.selection.next c.entries st <;> rfl

/-- Settles O50: the READOUT END, or the run of one frame and the readout moved on. -/
theorem dataFramesStagedInTurn : Obligations.DataFramesStagedInTurn := by
  intro s released streaming going empty
  refine ⟨fun ended => ?_, ?_⟩
  · refine (execStageDataFrame_possible released streaming going empty).trans ?_
    rcases ended with none' | cancelled
    · rw [none']
      rfl
    · rw [cancelled]
      cases s.readout.current <;> rfl
  · intro st p r c e current kept named held captured entry o n following blocks
    have run := s.mem.readRun_eq e.chain n o blocks
    have frame : s.nextFrame c e = some
        ⟨s.readout.number, e.station, e.startClamped, e.lineLost, e.testData, s.readout.nextIndex, _⟩ :=
      congrArg (Option.map _) run
    have chosen : s.readout.selection.next c.entries st = following := rfl
    have own : e.station = st := Record.entry_station entry
    refine (execStageDataFrame_possible released streaming going empty).trans ?_
    rw [current, kept]
    refine (if_neg (by decide)).trans ?_
    rw [State.stageCapture, State.readEntry_eq named held captured entry]
    dsimp only
    rw [frame, own, Readout.advance_eq, chosen]
    refine congrArg Host.Outcome.next ?_
    by_cases more : 64 < s.readout.remaining
    · rw [if_pos more, if_pos more]
      rfl
    · rw [if_neg more, if_neg more]
      cases following with
      | none => rfl
      | some x =>
        dsimp only
        cases c.firstCopied x <;> rfl

end Sys2Proof.Machine
end

section
/-! PROOFS. Bank switches: their scheduling, withdrawal and completion (R157 to R160). -/

namespace Sys2Proof.Machine

/-! ## Scheduling (R61, R62, R157) -/

/-- R61: a line that is not LIVE takes the shadow bank at the scheduling. -/
theorem State.scheduleLine_bankLine (s : State) (l : Line) (p : SwitchPoint) : (s.scheduleLine l p).bankLine l =
    if (s.bankLine l).live then { s.bankLine l with switch := some p }
    else { s.bankLine l with inUse := .shadow, switch := none } := by
  unfold State.scheduleLine
  dsimp only
  split_ifs
  · rw [State.setBankLine_bankLine_same]
  · refine (State.setBankLine_bankLine_same _ _ _).trans ?_
    rw [State.mapStations_bankLine, State.setBankLine_bankLine_same]

theorem State.scheduleLine_bankOf (s : State) (l : Line) (p : SwitchPoint) (b : BankName) :
    (s.scheduleLine l p).bankOf b = s.bankOf b := by
  unfold State.scheduleLine
  dsimp only
  split_ifs <;> cases b <;> rfl

/-- R62: the comparison under the conditions of a line that is not LIVE. -/
theorem State.scheduleLine_station_own (s : State) {l : Line} (p : SwitchPoint) {i : Station} (own : lineOf i = l) :
    (s.scheduleLine l p).station i =
      if (s.bankLine l).live then s.station i
      else continuity (s.bankOf (s.bankLine l).inUse) s.ctrl.shadow i false (s.station i) := by
  unfold State.scheduleLine
  dsimp only
  split_ifs
  · rw [State.setBankLine_station]
  · rw [State.switchIdleLine_station, if_pos own, State.setBankLine_bankLine_same, State.setBankLine_station]
    rfl

theorem State.scheduleLine_station_other (s : State) {l : Line} (p : SwitchPoint) {i : Station} (other : lineOf i ≠ l) :
    (s.scheduleLine l p).station i = s.station i := by
  unfold State.scheduleLine
  dsimp only
  split_ifs
  · rw [State.setBankLine_station]
  · rw [State.switchIdleLine_station, if_neg other, State.setBankLine_station]

theorem State.scheduleLine_ctrl (s : State) (l : Line) (p : SwitchPoint) : (s.scheduleLine l p).ctrl =
    { s.ctrl with reports := s.ctrl.reports ++ if (s.bankLine l).live then [] else [⟨lineBlock l, false⟩] } := by
  unfold State.scheduleLine
  dsimp only
  split_ifs
  · rw [List.append_nil]
    rfl
  · rfl

/-- R61: both lines judge the scheduled switch. -/
theorem State.schedule_bankLine (s : State) (p : SwitchPoint) (l : Line) : (s.schedule p).bankLine l =
    if (s.bankLine l).live then { s.bankLine l with switch := some p }
    else { s.bankLine l with inUse := .shadow, switch := none } := by
  rw [State.schedule_eq]
  cases l with
  | a =>
    rw [State.scheduleLine_bankLine_other _ _ (by decide), State.scheduleLine_bankLine]
    rfl
  | b =>
    rw [State.scheduleLine_bankLine, State.scheduleLine_bankLine_other _ _ (by decide)]
    rfl

theorem State.schedule_station (s : State) (p : SwitchPoint) (i : Station) : (s.schedule p).station i =
    if (s.bankLine (lineOf i)).live then s.station i
    else continuity (s.bankOf (s.bankLine (lineOf i)).inUse) s.ctrl.shadow i false (s.station i) := by
  have same : ∀ b, (s.withScheduled p).bankOf b = s.bankOf b := fun b => by cases b <;> rfl
  rw [State.schedule_eq]
  cases own : lineOf i with
  | a =>
    rw [State.scheduleLine_station_other _ _ (by rw [own]; decide), State.scheduleLine_station_own _ _ own, same]
    rfl
  | b =>
    rw [State.scheduleLine_station_own _ _ own, State.scheduleLine_station_other _ _ (by rw [own]; decide),
      State.scheduleLine_bankLine_other _ _ (by decide), State.scheduleLine_bankOf, same, State.scheduleLine_ctrl]
    rfl

theorem State.schedule_ctrl (s : State) (p : SwitchPoint) : (s.schedule p).ctrl =
    { s.ctrl with
      scheduled := some p, marks := ⟨false, false, false⟩
      reports := s.ctrl.reports ++ (if (s.bankLine .a).live then [] else [⟨.lineA, false⟩]) ++
        if (s.bankLine .b).live then [] else [⟨.lineB, false⟩] } := by
  rw [State.schedule_eq, State.scheduleLine_ctrl, State.scheduleLine_bankLine_other _ _ (by decide),
    State.scheduleLine_ctrl]
  rfl

/-- R157: the scheduling touches the detector bank, the switch and the associator's mark. -/
theorem State.schedule_frame (s : State) (p : SwitchPoint) : s.schedule p =
    { s with
      bank := (s.schedule p).bank
      assoc := { s.assoc with switch := some p }
      ctrl := (s.schedule p).ctrl } := by
  rw [State.schedule_eq, State.scheduleLine_frame, State.scheduleLine_frame (s.withScheduled p)]
  rfl

/-- R157: the state after an accepted SWITCH BANK. -/
theorem State.schedule_answer (s : State) (c : Command) (p : SwitchPoint) :
    (s.dropCommand.schedule p).answer c .done [] =
      { s.answered c .done [] with
        bank := (s.dropCommand.schedule p).bank
        assoc := { s.assoc with switch := some p }
        ctrl := (s.dropCommand.schedule p).ctrl } := by
  have unit : (s.dropCommand.schedule p).unitAddress = s.unitAddress := by
    rw [State.schedule_frame]
    rfl
  rw [State.answer_of_trunk unit (State.schedule_trunk _ _)]
  dsimp only
  rw [State.schedule_frame]
  rfl

/-! ## Withdrawal (R159) -/

theorem SwitchedMarks.any_iff (m : SwitchedMarks) : m.any = true ↔ ∃ b, m.get b = true := by
  simp only [SwitchedMarks.any, Bool.or_eq_true]
  constructor
  · rintro ((lineA | lineB) | associator)
    exacts [⟨.lineA, lineA⟩, ⟨.lineB, lineB⟩, ⟨.associator, associator⟩]
  · rintro ⟨b, marked⟩
    cases b with
    | lineA => exact .inl (.inl marked)
    | lineB => exact .inl (.inr marked)
    | associator => exact .inr marked

theorem State.someSwitched_iff (s : State) : s.someSwitched = true ↔ ∃ b, s.bankInUse b = .shadow := by
  simp only [State.someSwitched, Bool.or_eq_true, decide_eq_true_eq]
  constructor
  · rintro ((lineA | lineB) | associator)
    exacts [⟨.lineA, lineA⟩, ⟨.lineB, lineB⟩, ⟨.associator, associator⟩]
  · rintro ⟨b, switched⟩
    cases b with
    | lineA => exact .inl (.inl switched)
    | lineB => exact .inl (.inr switched)
    | associator => exact .inr switched

/-- R159: when CANCEL SWITCH is refused. -/
theorem State.cancelRefused_iff (s : State) :
    (s.ctrl.scheduled.isNone || s.ctrl.marks.any || s.someSwitched) = true ↔
      s.ctrl.scheduled = none ∨ ∃ b, s.ctrl.marks.get b = true ∨ s.bankInUse b = .shadow := by
  rw [Bool.or_eq_true, Bool.or_eq_true, Option.isNone_iff_eq_none, SwitchedMarks.any_iff, State.someSwitched_iff,
    or_assoc, exists_or]

/-! ## Reports and completion (R158, R160) -/

/-- The oldest report of a block. -/
theorem takeReportOf_append {b : SwitchBlock} {r : SwitchReport} {after : List SwitchReport} (own : r.block = b) :
    ∀ {before : List SwitchReport}, (∀ x ∈ before, x.block ≠ b) →
      takeReportOf b (before ++ r :: after) = some (r, before ++ after)
  | [], _ => if_pos own
  | x :: before, others => by
    have rest := takeReportOf_append (after := after) own fun y mem => others y (List.mem_cons_of_mem x mem)
    rw [List.cons_append, takeReportOf, if_neg (others x List.mem_cons_self), rest]
    rfl

theorem SwitchedMarks.all_iff (m : SwitchedMarks) :
    (m.lineA && m.lineB && m.associator) = true ↔ ∀ o, m.get o = true := by
  simp only [Bool.and_eq_true]
  constructor
  · rintro ⟨⟨lineA, lineB⟩, associator⟩ o
    cases o with
    | lineA => exact lineA
    | lineB => exact lineB
    | associator => exact associator
  · exact fun all => ⟨⟨all .lineA, all .lineB⟩, all .associator⟩

/-- R158: the three things that a report taken can do. -/
theorem State.takeReport_discarded {s : State} {r : SwitchReport} (idle : r.cancelled = true ∨ s.ctrl.scheduled = none) :
    s.takeReport r = s :=
  if_pos (by rwa [Bool.or_eq_true, Option.isNone_iff_eq_none])

theorem SwitchReport.not_idle {s : State} {r : SwitchReport} (standing : r.cancelled = false)
    (pending : s.ctrl.scheduled.isSome = true) : ¬ (r.cancelled || s.ctrl.scheduled.isNone) = true := by
  rw [standing, Option.isNone_eq_false_iff.mpr pending]
  decide

theorem State.takeReport_waiting {s : State} {r : SwitchReport} (standing : r.cancelled = false)
    (pending : s.ctrl.scheduled.isSome = true) (waits : ∃ o, (s.ctrl.marks.mark r.block).get o = false) :
    s.takeReport r = s.setMarks (s.ctrl.marks.mark r.block) := by
  refine (if_neg (SwitchReport.not_idle standing pending)).trans (if_neg fun all => ?_)
  obtain ⟨o, waits⟩ := waits
  exact Bool.false_ne_true (waits.symm.trans ((SwitchedMarks.all_iff _).mp all o))

theorem State.takeReport_completing {s : State} {r : SwitchReport} (standing : r.cancelled = false)
    (pending : s.ctrl.scheduled.isSome = true) (all : ∀ o, (s.ctrl.marks.mark r.block).get o = true) :
    s.takeReport r = (s.setMarks (s.ctrl.marks.mark r.block)).completeSwitch :=
  (if_neg (SwitchReport.not_idle standing pending)).trans (if_pos ((SwitchedMarks.all_iff _).mpr all))

theorem execSwitchedReport_eq {s : State} {b : SwitchBlock} {before after : List SwitchReport} {cancelled : Bool}
    (released : s.pins.rstn = true) (reports : s.ctrl.reports = before ++ ⟨b, cancelled⟩ :: after)
    (others : ∀ r ∈ before, r.block ≠ b) :
    execSwitchedReport b s = .next ((s.setReports (before ++ after)).takeReport ⟨b, cancelled⟩) := by
  have found : takeReportOf b s.ctrl.reports = some (⟨b, cancelled⟩, before ++ after) := by
    rw [reports]
    exact takeReportOf_append (r := ⟨b, cancelled⟩) rfl others
  rw [execSwitchedReport, State.whileReleased_of_released released, found]
  rfl

/-! ## The commands -/

theorem readSwitchPoint_eq_none {params : List Byte} (other : 1 < at8 params 0) : readSwitchPoint params = none := by
  rw [readSwitchPoint, if_neg (by omega), if_neg (by omega)]

theorem readSwitchPoint_eq_some {params : List Byte} (mode : at8 params 0 ≤ 1) : readSwitchPoint params =
    some (if at8 params 0 = 0 then .atIndex (at32 params 1) else .immediate) := by
  rw [readSwitchPoint]
  by_cases zero : at8 params 0 = 0
  · rw [if_pos zero, if_pos zero]
  · rw [if_neg zero, if_neg zero, if_pos (by omega)]

/-- Settles O59: the scheduling at both lines, the withdrawal, and the report taken. -/
theorem bankSwitchScheduledAndCompleted : Obligations.BankSwitchScheduledAndCompleted := by
  refine ⟨fun s c can code length => ⟨fun other => ?_, fun mode pending => ?_, fun mode free => ?_⟩,
    fun s c can code params => ⟨fun refused => ?_, fun pending unswitched => ?_⟩,
    fun s b before after cancelled released reports others => ?_⟩
  · refine (execSwitchBank_taken can code).trans (congrArg Host.Outcome.next ?_)
    rw [State.withLength_same length, readSwitchPoint_eq_none other, State.dropCommand_answer]
  · refine (execSwitchBank_taken can code).trans (congrArg Host.Outcome.next ?_)
    rw [State.withLength_same length, readSwitchPoint_eq_some mode, ← State.dropCommand_answer]
    exact if_pos pending
  · intro point idle
    have unset : ¬ s.ctrl.scheduled.isSome = true := by rw [free]; decide
    have taken : exec .switchBank s = .next ((s.dropCommand.schedule point).answer c .done []) := by
      refine (execSwitchBank_taken can code).trans (congrArg Host.Outcome.next ?_)
      rw [State.withLength_same length, readSwitchPoint_eq_some mode]
      exact if_neg unset
    rw [State.schedule_answer] at taken
    have byIdle {α : Type} (l : Line) (yes no : α) :
        (if (s.bankLine l).live then no else yes) = if idle l then yes else no := by
      show _ = if (!(s.bankLine l).live) then yes else no
      cases (s.bankLine l).live <;> rfl
    refine ⟨_, taken, fun l => (s.dropCommand.schedule_bankLine point l).trans (byIdle l _ _), fun i => ?_, ?_⟩
    · refine (s.dropCommand.schedule_station point i).trans ?_
      rw [continuity_eq]
      exact if_congr (Bool.not_eq_false' _).to_iff.symm rfl rfl
    · rw [State.schedule_ctrl, ← byIdle .a, ← byIdle .b]
      rfl
  · refine (execCancelSwitch_taken can code).trans (congrArg Host.Outcome.next ?_)
    rw [State.withLength_same (by rw [params]; rfl), if_pos (s.cancelRefused_iff.mpr refused), State.dropCommand_answer]
  · have accepted : ¬ (s.ctrl.scheduled.isNone || s.ctrl.marks.any || s.someSwitched) = true := fun refused => by
      rcases s.cancelRefused_iff.mp refused with free | ⟨b, marked | switched⟩
      · rw [free] at pending
        exact Bool.false_ne_true pending
      · exact Bool.false_ne_true ((unswitched b).1.symm.trans marked)
      · exact absurd ((unswitched b).2.symm.trans switched) (by decide)
    refine (execCancelSwitch_taken can code).trans (congrArg Host.Outcome.next ?_)
    rw [State.withLength_same (by rw [params]; rfl), if_neg accepted,
      State.answer_of_trunk (s := s) (t := s.dropCommand.withdraw) rfl rfl]
    rfl
  · have taken : ∀ {t}, (s.setReports (before ++ after)).takeReport ⟨b, cancelled⟩ = t →
        exec (.switchedReport b) s = .next t := fun same =>
      (execSwitchedReport_eq released reports others).trans (congrArg Host.Outcome.next same)
    have marks (o : SwitchBlock) : (s.ctrl.marks.mark b).get o = (s.ctrl.marks.get o || decide (o = b)) := by
      rw [SwitchedMarks.get_mark]
      by_cases own : b = o
      · rw [if_pos own, decide_eq_true own.symm, Bool.or_true]
      · rw [if_neg own, decide_eq_false (Ne.symm own), Bool.or_false]
    refine ⟨fun idle => taken (State.takeReport_discarded idle), fun standing pending waits => ?_,
      fun standing pending others => ?_⟩
    · obtain ⟨o, other, unmarked⟩ := waits
      refine ⟨_, marks, taken (State.takeReport_waiting standing pending ⟨o, ?_⟩)⟩
      refine (marks o).trans ?_
      rw [unmarked, decide_eq_false other]
      rfl
    · intro done
      refine ⟨taken (State.takeReport_completing standing pending fun o => ?_), fun o switched => ?_⟩
      · refine (marks o).trans ?_
        by_cases own : o = b
        · rw [decide_eq_true own, Bool.or_true]
        · rw [others o own, Bool.true_or]
      · rw [switched]
        cases o <;> rfl

end Sys2Proof.Machine
end

section
/-! PROOFS. FETCH, CANCEL READOUT and RELEASE (R126, R127, R131 to R133). -/

namespace Sys2Proof.Machine

theorem readSelection_eq_some_iff (n : Nat) (sel : Selection) : readSelection n = some sel ↔
    (n = 0xFF ∧ sel = .all) ∨ ∃ i : Station, n = i.val ∧ sel = .one i := by
  unfold readSelection
  split_ifs with low all
  · constructor
    · rintro ⟨⟩
      exact .inr ⟨⟨n, low⟩, rfl, rfl⟩
    · rintro (⟨rfl, -⟩ | ⟨i, rfl, rfl⟩)
      · exact absurd low (by decide)
      · rfl
  · constructor
    · rintro ⟨⟩
      exact .inl ⟨all, rfl⟩
    · rintro (⟨-, rfl⟩ | ⟨i, rfl, -⟩)
      · rfl
      · exact absurd i.isLt low
  · constructor
    · exact fun none' => nomatch none'
    · rintro (⟨all', -⟩ | ⟨i, rfl, -⟩)
      · exact absurd all' all
      · exact absurd i.isLt low

theorem readSelection_eq_none {n : Nat} (past : 64 ≤ n) (other : n ≠ 0xFF) : readSelection n = none := by
  rw [readSelection, dif_neg (Nat.not_lt.mpr past), if_neg other]

/-! ## A command that names an event -/

section
variable {s : State} {c : Command} {p : Fin 32} {r : Record} {sel : Selection}

theorem execFetch_unnamed (can : s.canTake c) (code : c.code = 0x0E) (length : c.params.length = 3)
    (chosen : readSelection (at8 c.params 2) = none) : execFetch s = .next (s.answered c .noSuchTable []) := by
  rw [execFetch_taken can code, State.withLength_same length, chosen, State.dropCommand_answer]

theorem execFetch_unheld (can : s.canTake c) (code : c.code = 0x0E) (length : c.params.length = 3)
    (chosen : readSelection (at8 c.params 2) = some sel)
    (unheld : ∀ p r, s.record p = some r → r.number ≠ at16 c.params 0) :
    execFetch s = .next (s.answered c .noSuchEvent []) := by
  rw [execFetch_taken can code, State.withLength_same length, chosen, (s.findRecord_eq_none_iff _).mpr unheld]
  exact congrArg Host.Outcome.next (s.dropCommand_answer c _ _)

theorem execFetch_held (can : s.canTake c) (ok : s.numbersOk) (code : c.code = 0x0E) (length : c.params.length = 3)
    (chosen : readSelection (at8 c.params 2) = some sel) (held : s.record p = some r)
    (number : r.number = at16 c.params 0) : execFetch s = .next (s.dropCommand.fetchRecord c p r sel) := by
  rw [execFetch_taken can code, State.withLength_same length, chosen, ← number, State.findRecord_number ok held]
  dsimp only
  rw [held]

theorem execRelease_unheld (can : s.canTake c) (code : c.code = 0x10) (length : c.params.length = 2)
    (unheld : ∀ p r, s.record p = some r → r.number ≠ at16 c.params 0) :
    execRelease s = .next (s.answered c .noSuchEvent []) := by
  rw [execRelease_taken can code, State.withLength_same length, (s.findRecord_eq_none_iff _).mpr unheld,
    State.dropCommand_answer]

theorem execRelease_held (can : s.canTake c) (ok : s.numbersOk) (code : c.code = 0x10)
    (length : c.params.length = 2) (held : s.record p = some r) (number : r.number = at16 c.params 0) :
    execRelease s = .next (s.dropCommand.releaseRecord c p r) := by
  rw [execRelease_taken can code, State.withLength_same length, ← number, State.findRecord_number ok held]
  dsimp only
  rw [held]

end

/-! ## The readout started (R127) -/

/-- The fields of a readout that an accepted FETCH starts. -/
def Readout.started (p : Fin 32) (r : Record) (sel : Selection) : Readout :=
  { streaming := true, record := some p, number := r.number, selection := sel, current := none, nextIndex := 0,
    remaining := 0, endStaged := false, framesSent := 0, instantsSent := 0, overlap := false, cancel := false }

/-- R127: the entry that a selection reads first. -/
def Record.chosen (r : Record) (sel : Selection) : Option StationEntry :=
  match sel with
  | .all => r.entries.head?
  | .one st => r.entry st

theorem Record.chosen_of_capture {r : Record} {w : CaptureSection} (captured : r.capture = some w) (sel : Selection) :
    r.chosen sel = sel.first w.entries := by
  have entries : r.entries = w.entries := by rw [Record.entries, captured]
  cases sel with
  | all => exact congrArg List.head? entries
  | one st => exact Record.entry_of_capture captured st

theorem State.startReadout_none {s : State} {p : Fin 32} {r : Record} {sel : Selection}
    (nothing : r.chosen sel = none) : s.startReadout p r sel =
      (s.setRecord p (some { r with state := .reading })).setReadout (.started p r sel) := by
  unfold State.startReadout
  cases captured : r.capture with
  | none => rfl
  | some w =>
    have first := (Record.chosen_of_capture captured sel).symm.trans nothing
    dsimp only
    rw [first]
    rfl

theorem State.startReadout_some {s : State} {p : Fin 32} {r : Record} {sel : Selection} {w : CaptureSection}
    {e : StationEntry} (captured : r.capture = some w) (chosen : r.chosen sel = some e) : s.startReadout p r sel =
      (s.setRecord p (some { r with state := .reading })).setReadout
        { Readout.started p r sel with
          current := some e.station, nextIndex := (w.firstCopied e).getD w.start, remaining := e.copied } := by
  have first := (Record.chosen_of_capture captured sel).symm.trans chosen
  unfold State.startReadout
  rw [captured]
  dsimp only
  rw [first]
  rfl

/-! ## The readout cancelled and the record freed (R107, R132, R133) -/

theorem State.answer_eq (s : State) (c : Command) (k : Completion) (rs : List Byte) : s.answer c k rs =
    { s with trunk := { s.trunk with
      reply := if c.address = 31 then s.trunk.reply
        else s.trunk.reply ++ [⟨s.unitAddress, c.code, c.tag, k, rs⟩] } } := by
  unfold State.answer
  by_cases group : c.address = 31
  · rw [if_pos ((Command.isGroup_iff c).mpr group), if_pos group]
  · rw [if_neg (group ∘ (Command.isGroup_iff c).mp), if_neg group]

theorem State.cancelReadout_capture (s : State) : s.cancelReadout.capture = s.capture := by
  unfold State.cancelReadout
  split_ifs <;> rfl

/-- The reply and the cancellation touch different places, so that either can come first. -/
theorem State.cancelReadout_answer (s : State) (c : Command) (k : Completion) (rs : List Byte) :
    s.cancelReadout.answer c k rs = (s.answer c k rs).cancelReadout := by
  rw [State.answer_eq, State.answer_eq]
  unfold State.cancelReadout
  dsimp only
  split_ifs <;> rfl

theorem State.withoutRecord_capture {s t : State} (same : t.capture = s.capture) (p : Fin 32) (r : Record) :
    (t.withoutRecord p r).capture = (s.withoutRecord p r).capture := by
  simp only [State.withoutRecord, State.record, same]

/-- R133: the record under readout is freed with its readout cancelled. -/
theorem State.releaseReading_answer {s : State} {c : Command} {p : Fin 32} {r : Record} (held : s.record p = some r) :
    (s.dropCommand.releaseReading p).answer c .done [] =
      { (s.answered c .done []).cancelReadout with
        capture := (s.withoutRecord p r).capture
        readout := { (s.answered c .done []).cancelReadout.readout with record := none } } := by
  have same := s.dropCommand.cancelReadout_capture
  have freed := State.freeRecord_eq ((State.record_of_capture same p).trans held)
  have without : (s.dropCommand.cancelReadout.withoutRecord p r).capture = (s.withoutRecord p r).capture :=
    State.withoutRecord_capture same p r
  rw [← State.dropCommand_answer, ← State.cancelReadout_answer, ← without, State.answer_eq, State.answer_eq,
    State.releaseReading, freed]
  rfl

/-- Settles O60: the record that a number names, by its state. -/
theorem eventsFetchedAndReleased : Obligations.EventsFetchedAndReleased := by
  refine ⟨readSelection_eq_some_iff, fun s c can ok => ?_⟩
  intro cancelled
  have cancelEq : (s.answered c .done []).cancelReadout = cancelled := rfl
  refine ⟨fun code length => ⟨fun past other =>
      execFetch_unnamed can code length (readSelection_eq_none past other),
      fun sel chosen => ⟨execFetch_unheld can code length chosen, fun p r held number => ?_⟩⟩,
    fun code params => ⟨fun idle => ?_, fun streaming => ?_⟩,
    fun code length => ⟨execRelease_unheld can code length, fun p r held number => ?_⟩⟩
  · have taken {t : State} (same : s.dropCommand.fetchRecord c p r sel = t) : exec .fetch s = .next t :=
      (execFetch_held can ok code length chosen held number).trans (congrArg Host.Outcome.next same)
    refine ⟨fun busy => taken ?_, fun ready streaming => taken ?_, fun ready idle => ?_⟩
    · exact (if_pos busy).trans (s.dropCommand_answer c _ _)
    · exact (if_neg (not_not.mpr ready)).trans (if_pos streaming)
    · intro entry fresh
      have started : s.dropCommand.fetchRecord c p r sel = (s.dropCommand.startReadout p r sel).answer c .done [] :=
        (if_neg (not_not.mpr ready)).trans (if_neg (by show ¬ s.readout.streaming = true; rw [idle]; decide))
      refine ⟨fun nothing => taken (started.trans ?_), fun w e captured some' => taken (started.trans ?_)⟩
      · have none' : r.chosen sel = none := nothing
        rw [State.startReadout_none none', State.answer_eq]
        rfl
      · have first : r.chosen sel = some e := some'
        rw [State.startReadout_some captured first, State.answer_eq]
        cases w.firstCopied e <;> rfl
  · refine (execCancelReadout_taken can code).trans (congrArg Host.Outcome.next ?_)
    rw [State.withLength_same (by rw [params]; rfl), idle, State.dropCommand_answer s c .wrongState]
    rfl
  · refine (execCancelReadout_taken can code).trans (congrArg Host.Outcome.next ?_)
    rw [State.withLength_same (by rw [params]; rfl), streaming, State.dropCommand_answer s c .done]
    exact cancelEq
  · intro freed
    have taken {t : State} (same : s.dropCommand.releaseRecord c p r = t) : exec .release s = .next t :=
      (execRelease_held can ok code length held number).trans (congrArg Host.Outcome.next same)
    have freedEq : (s.dropCommand.freeRecord p).answer c .done [] = { s.answered c .done [] with capture := freed } := by
      rw [State.freeRecord_eq (s := s.dropCommand) held, State.answer_eq]
      rfl
    refine ⟨fun active => taken ?_, ?_, fun reading => taken ?_⟩
    · rw [State.releaseRecord, active]
      exact s.dropCommand_answer c _ _
    · rintro (ready | filling)
      · refine taken ?_
        rw [State.releaseRecord, ready]
        exact freedEq
      · refine taken ?_
        rw [State.releaseRecord, filling]
        exact freedEq
    · rw [State.releaseRecord, reading]
      exact (State.releaseReading_answer held).trans (cancelEq ▸ rfl)

end Sys2Proof.Machine
end

section
/-! PROOFS. What tables store of a loaded entry, and the clamps that this takes (R20, R34, R77, R79). -/

namespace Sys2Proof.Machine

/-! ## Values and codes -/

/-- A value is stored as the nearest one in range; it is clamped when it is out of range. -/
theorem clampTo_outside {lo hi : Nat} (ordered : lo ≤ hi) (n : Nat) :
    clampTo lo hi n = (max lo (min hi n), (decide (n < lo ∨ hi < n)).toNat) := by
  rw [clampTo_eq ordered]
  by_cases inside : lo ≤ n ∧ n ≤ hi
  · rw [if_pos inside, decide_eq_false (by omega)]
    rfl
  · rw [if_neg inside, decide_eq_true (by omega)]
    rfl

/-- The same by whether the stored value is another. -/
theorem clampTo_differs {lo hi : Nat} (ordered : lo ≤ hi) (n : Nat) :
    clampTo lo hi n = (max lo (min hi n), (decide (max lo (min hi n) ≠ n)).toNat) := by
  rw [clampTo_outside ordered, decide_eq_decide.mpr (show (n < lo ∨ hi < n) ↔ max lo (min hi n) ≠ n by omega)]

theorem clampTo_above (hi n : Nat) : clampTo 0 hi n = (min hi n, (decide (hi < n)).toNat) := by
  rw [clampTo_outside (Nat.zero_le hi), Nat.zero_max,
    decide_eq_decide.mpr (show (n < 0 ∨ hi < n) ↔ hi < n by omega)]

theorem clampCode_above (n : Nat) : clampCode true n = (decide (n ≠ 0), (decide (1 < n)).toNat) := by
  rw [clampCode_true]
  by_cases low : n ≤ 1
  · rw [if_pos low, decide_eq_false (Nat.not_lt.mpr low)]
    rfl
  · rw [if_neg low, decide_eq_true (Nat.not_le.mp low)]
    rfl

theorem readRole_eq (n : Nat) : readRole n =
    (if n = 1 then .z else if n = 2 then .h1 else if n = 3 then .h2 else .off, (decide (3 < n)).toNat) := by
  match n with
  | 0 | 1 | 2 | 3 => rfl
  | n + 4 => simp [readRole]

theorem readMode_eq (n : Nat) : readMode n = (if n = 1 then .vector else .vertical, (decide (1 < n)).toNat) := by
  match n with
  | 0 | 1 => rfl
  | n + 2 => simp [readMode]

theorem readCaptureSet_eq (n : Nat) :
    readCaptureSet n = (if n = 1 then .all else .neighbourhood, (decide (1 < n)).toNat) := by
  match n with
  | 0 | 1 => rfl
  | n + 2 => simp [readCaptureSet]

theorem readSet_eq (n : Nat) : (readSet n).1.val = min 7 n ∧ (readSet n).2 = (decide (7 < n)).toNat := by
  unfold readSet
  split_ifs with low
  · rw [decide_eq_false (by omega)]
    exact ⟨(Nat.min_eq_right (by omega)).symm, rfl⟩
  · rw [decide_eq_true (by omega)]
    exact ⟨(Nat.min_eq_left (by omega)).symm, rfl⟩

/-! ## Station entries (R20) -/

/-- R20: the roles leave no component for the mode. -/
def rolesUnfit (mode : Mode) (role1 role2 role3 : Role) : Bool :=
  match mode with
  | .vertical => decide (role1 ≠ .z ∧ role2 ≠ .z ∧ role3 ≠ .z)
  | .vector => decide (role1 = .off ∧ role2 = .off ∧ role3 = .off)

theorem fixRoles_eq (x : StationEntryCfg) : fixRoles x =
    ⟨{ x with role1 := if rolesUnfit x.mode x.role1 x.role2 x.role3 then .z else x.role1 },
      (rolesUnfit x.mode x.role1 x.role2 x.role3).toNat⟩ := by
  obtain ⟨enable, role1, role2, role3, mode, set, weight⟩ := x
  cases mode with
  | vertical =>
    by_cases unfit : role1 ≠ .z ∧ role2 ≠ .z ∧ role3 ≠ .z
    · simp only [fixRoles, rolesUnfit, if_pos unfit, decide_eq_true unfit]
      rfl
    · simp only [fixRoles, rolesUnfit, if_neg unfit, decide_eq_false unfit]
      rfl
  | vector =>
    by_cases unfit : role1 = .off ∧ role2 = .off ∧ role3 = .off
    · simp only [fixRoles, rolesUnfit, if_pos unfit, decide_eq_true unfit]
      rfl
    · simp only [fixRoles, rolesUnfit, if_neg unfit, decide_eq_false unfit]
      rfl

/-! ## Detector sets (R34) -/

theorem readDetectorSet_eq (bs : List Byte) :
    let s := max 2 (min 10 (at8 bs 3))
    let l := max 6 (min 16 (at8 bs 4))
    let rOn := max 16 (min 1023 (at16 bs 5))
    let rOff := max 8 (min 1023 (at16 bs 7))
    readDetectorSet bs =
      ⟨{ k := at16 bs 0, g := min 16 (at8 bs 2), s := s, l := max l (s + 3), rOn := rOn, rOff := min rOff rOn
         d := at8 bs 9, m := at16 bs 10, h := at16 bs 12, f := at16 bs 14 },
        (decide (16 < at8 bs 2)).toNat + (decide (s ≠ at8 bs 3)).toNat + (decide (l ≠ at8 bs 4)).toNat +
          (decide (rOn ≠ at16 bs 5)).toNat + (decide (rOff ≠ at16 bs 7)).toNat +
          (decide (l < s + 3)).toNat + (decide (rOn < rOff)).toNat⟩ := by
  intro s l rOn rOff
  have gap : (if l < s + 3 then (s + 3, 1) else (l, 0)) = (max l (s + 3), (decide (l < s + 3)).toNat) := by
    split_ifs with short
    · rw [decide_eq_true short, Nat.max_eq_right short.le]
      rfl
    · rw [decide_eq_false short, Nat.max_eq_left (Nat.le_of_not_lt short)]
      rfl
  have order : (if rOn < rOff then (rOn, 1) else (rOff, 0)) = (min rOff rOn, (decide (rOn < rOff)).toNat) := by
    split_ifs with above
    · rw [decide_eq_true above, Nat.min_eq_right above.le]
      rfl
    · rw [decide_eq_false above, Nat.min_eq_left (Nat.le_of_not_lt above)]
      rfl
  unfold readDetectorSet
  dsimp only
  rw [clampTo_above, clampTo_differs (show 2 ≤ 10 by decide), clampTo_differs (show 6 ≤ 16 by decide),
    clampTo_differs (show 16 ≤ 1023 by decide), clampTo_differs (show 8 ≤ 1023 by decide)]
  dsimp only
  rw [gap, order]

/-! ## Association parameters (R79) -/

theorem readAssocParams_eq (bs : List Byte) : readAssocParams bs =
    ⟨{ quorum := max 2 (min 192 (at16 bs 0)), slack := min 4095 (at16 bs 2), extLength := min 4095 (at16 bs 4)
       extLimit := min 7 (at16 bs 6), span := max 1 (at16 bs 8), captureEnable := decide (at8 bs 10 ≠ 0)
       captureSet := if at8 bs 11 = 1 then .all else .neighbourhood
       pre := min 4095 (at16 bs 12), post := min 4096 (at16 bs 14) },
      (decide (at16 bs 0 < 2 ∨ 192 < at16 bs 0)).toNat + (decide (4095 < at16 bs 2)).toNat +
        (decide (4095 < at16 bs 4)).toNat + (decide (7 < at16 bs 6)).toNat + (decide (at16 bs 8 = 0)).toNat +
        (decide (1 < at8 bs 10)).toNat + (decide (1 < at8 bs 11)).toNat + (decide (4095 < at16 bs 12)).toNat +
        (decide (4096 < at16 bs 14)).toNat⟩ := by
  have small := at16_lt bs 8
  have span : clampTo 1 65535 (at16 bs 8) = (max 1 (at16 bs 8), (decide (at16 bs 8 = 0)).toNat) := by
    rw [clampTo_outside (by decide), Nat.min_eq_right (by omega),
      decide_eq_decide.mpr (show (at16 bs 8 < 1 ∨ 65535 < at16 bs 8) ↔ at16 bs 8 = 0 by omega)]
  simp only [readAssocParams, clampTo_above, clampTo_outside (show 2 ≤ 192 by decide), span, clampCode_above,
    readCaptureSet_eq]

end Sys2Proof.Machine
end

section
/-! PROOFS. A table entry as READ TABLE reports it loads back unchanged and unclamped (R155, R166, R167). -/

namespace Sys2Proof.Machine

/-! ## Neighbour lists (R77) -/

/-- R77: one entry place judged against the entries kept before it. -/
def keepNeighbour (owner : Station) (bs : List Byte) (x : List Neighbour × Nat) (p : Nat) : List Neighbour × Nat :=
  let st := at8 bs (1 + 3 * p)
  let sent := at16 bs (2 + 3 * p)
  let moveout := max 1 (min 16383 sent)
  if h : st < 64 then
    if st = owner.val ∨ x.1.any (fun y => decide (y.station.val = st)) then (x.1, x.2 + 1)
    else (x.1 ++ [⟨⟨st, h⟩, moveout⟩], x.2 + (decide (moveout ≠ sent)).toNat)
  else (x.1, x.2 + 1)

theorem readNeighbours_cons {owner : Station} {bs : List Byte} {earlier : List Nat} {kept : List Neighbour} {clamps : Nat}
    (before : readNeighbours owner bs earlier = ⟨kept, clamps⟩) (p : Nat) :
    readNeighbours owner bs (p :: earlier) =
      ⟨(keepNeighbour owner bs (kept, clamps) p).1, (keepNeighbour owner bs (kept, clamps) p).2⟩ := by
  rw [readNeighbours, before, clampTo_differs (show 1 ≤ 16383 by decide)]
  unfold keepNeighbour
  dsimp only
  by_cases named : at8 bs (1 + 3 * p) < 64
  · simp only [dif_pos named, Fin.ext_iff]
    split_ifs <;> rfl
  · simp only [dif_neg named]

/-- R77: the places within the count, in their order. -/
theorem readNeighbours_eq (owner : Station) (bs : List Byte) (places : List Nat) :
    readNeighbours owner bs places.reverse =
      ⟨(places.foldl (keepNeighbour owner bs) ([], 0)).1, (places.foldl (keepNeighbour owner bs) ([], 0)).2⟩ := by
  induction places using List.reverseRecOn with
  | nil => rfl
  | append_singleton places p ih =>
    rw [List.reverse_append, List.reverse_singleton, List.singleton_append, readNeighbours_cons ih, List.foldl_append]
    rfl

theorem readNeighbourList_eq (owner : Station) (bs : List Byte) :
    let kept := (List.range (min 15 (at8 bs 0))).foldl (keepNeighbour owner bs) ([], 0)
    readNeighbourList owner bs = ⟨kept.1, (decide (15 < at8 bs 0)).toNat + kept.2⟩ := by
  unfold readNeighbourList
  dsimp only
  rw [clampTo_above, readNeighbours_eq]

/-! ## Reading back what was written -/

theorem readStationEntry_write {x : StationEntryCfg} (ok : x.inRange) : readStationEntry (writeStationEntry x) = ⟨x, 0⟩ := by
  obtain ⟨low, high, used⟩ := ok
  have enable : at8 (writeStationEntry x) 0 = x.enable.toNat := at8_markByte x.enable
  have roles := byte_nibbles (lt_trans x.role1.code_lt (by decide)) (lt_trans x.role2.code_lt (by decide))
  have roleMode := byte_nibbles (lt_trans x.role3.code_lt (by decide)) (lt_trans x.mode.code_lt (by decide))
  have setWeight := byte_nibbles (lt_trans x.set.isLt (by decide)) (show x.weight < 16 by omega)
  have fit : rolesUnfit x.mode x.role1 x.role2 x.role3 = false := by
    unfold rolesUnfit
    cases mode : x.mode with
    | vertical =>
      simp only [mode] at used
      exact decide_eq_false (by tauto)
    | vector =>
      simp only [mode] at used
      exact decide_eq_false (by tauto)
  have role1 : readRole (highNibble (at8 (writeStationEntry x) 1)) = (x.role1, 0) := by
    rw [show highNibble (at8 (writeStationEntry x) 1) = x.role1.code from roles.1, readRole_code]
  have role2 : readRole (lowNibble (at8 (writeStationEntry x) 1)) = (x.role2, 0) := by
    rw [show lowNibble (at8 (writeStationEntry x) 1) = x.role2.code from roles.2, readRole_code]
  have role3 : readRole (highNibble (at8 (writeStationEntry x) 2)) = (x.role3, 0) := by
    rw [show highNibble (at8 (writeStationEntry x) 2) = x.role3.code from roleMode.1, readRole_code]
  have mode : readMode (lowNibble (at8 (writeStationEntry x) 2)) = (x.mode, 0) := by
    rw [show lowNibble (at8 (writeStationEntry x) 2) = x.mode.code from roleMode.2, readMode_code]
  have set : readSet (highNibble (at8 (writeStationEntry x) 3)) = (x.set, 0) := by
    rw [show highNibble (at8 (writeStationEntry x) 3) = x.set.val from setWeight.1, readSet_val]
  have weight : clampTo 1 3 (lowNibble (at8 (writeStationEntry x) 3)) = (x.weight, 0) := by
    rw [show lowNibble (at8 (writeStationEntry x) 3) = x.weight from setWeight.2, clampTo_of_mem low high]
  simp only [readStationEntry, enable, clampCode_toNat, role1, role2, role3, mode, set, weight, fixRoles_eq, fit]
  rfl

theorem readDetectorSet_write {x : DetectorSet} (ok : x.inRange) : readDetectorSet (writeDetectorSet x) = ⟨x, 0⟩ := by
  obtain ⟨k, g, ⟨sLow, sHigh⟩, ⟨lLow, lHigh⟩, ⟨onLow, onHigh⟩, ⟨offLow, offHigh⟩, d, m, h, f, gap, order⟩ := ok
  have bytes : at16 (writeDetectorSet x) 0 = x.k ∧ at8 (writeDetectorSet x) 2 = x.g ∧
      at8 (writeDetectorSet x) 3 = x.s ∧ at8 (writeDetectorSet x) 4 = x.l ∧ at16 (writeDetectorSet x) 5 = x.rOn ∧
      at16 (writeDetectorSet x) 7 = x.rOff ∧ at8 (writeDetectorSet x) 9 = x.d ∧ at16 (writeDetectorSet x) 10 = x.m ∧
      at16 (writeDetectorSet x) 12 = x.h ∧ at16 (writeDetectorSet x) 14 = x.f :=
    ⟨be16_parts (n := x.k) (by omega), byte_toNat x.g (by omega), byte_toNat x.s (by omega), byte_toNat x.l (by omega),
      be16_parts (n := x.rOn) (by omega), be16_parts (n := x.rOff) (by omega), byte_toNat x.d (by omega),
      be16_parts (n := x.m) (by omega), be16_parts (n := x.h) (by omega), be16_parts (n := x.f) (by omega)⟩
  obtain ⟨kEq, gEq, sEq, lEq, onEq, offEq, dEq, mEq, hEq, fEq⟩ := bytes
  simp only [readDetectorSet, kEq, gEq, sEq, lEq, onEq, offEq, dEq, mEq, hEq, fEq, clampTo_of_mem (Nat.zero_le _) g,
    clampTo_of_mem sLow sHigh, clampTo_of_mem lLow lHigh, clampTo_of_mem onLow onHigh, clampTo_of_mem offLow offHigh,
    if_neg (Nat.not_lt.mpr gap), if_neg (Nat.not_lt.mpr order)]

theorem readAssocParams_write {x : AssocParams} (ok : x.inRange) : readAssocParams (writeAssocParams x) = ⟨x, 0⟩ := by
  obtain ⟨⟨quorumLow, quorumHigh⟩, slack, extLength, extLimit, ⟨spanLow, spanHigh⟩, pre, post⟩ := ok
  have bytes : at16 (writeAssocParams x) 0 = x.quorum ∧ at16 (writeAssocParams x) 2 = x.slack ∧
      at16 (writeAssocParams x) 4 = x.extLength ∧ at16 (writeAssocParams x) 6 = x.extLimit ∧
      at16 (writeAssocParams x) 8 = x.span ∧ at8 (writeAssocParams x) 10 = x.captureEnable.toNat ∧
      at8 (writeAssocParams x) 11 = x.captureSet.code ∧ at16 (writeAssocParams x) 12 = x.pre ∧
      at16 (writeAssocParams x) 14 = x.post :=
    ⟨be16_parts (n := x.quorum) (by omega), be16_parts (n := x.slack) (by omega), be16_parts (n := x.extLength) (by omega),
      be16_parts (n := x.extLimit) (by omega), be16_parts (n := x.span) (by omega), at8_markByte x.captureEnable,
      byte_toNat x.captureSet.code (by cases x.captureSet <;> decide), be16_parts (n := x.pre) (by omega), be16_parts (n := x.post) (by omega)⟩
  obtain ⟨quorumEq, slackEq, extEq, limitEq, spanEq, enableEq, setEq, preEq, postEq⟩ := bytes
  simp only [readAssocParams, quorumEq, slackEq, extEq, limitEq, spanEq, enableEq, setEq, preEq, postEq,
    clampTo_of_mem quorumLow quorumHigh, clampTo_of_mem (Nat.zero_le _) slack, clampTo_of_mem (Nat.zero_le _) extLength,
    clampTo_of_mem (Nat.zero_le _) extLimit, clampTo_of_mem spanLow spanHigh, clampTo_of_mem (Nat.zero_le _) pre,
    clampTo_of_mem (Nat.zero_le _) post, clampCode_toNat, readCaptureSet_code]

/-! ## Neighbour lists written and read back -/

/-- The three bytes of a neighbour. -/
def neighbourBytes (x : Neighbour) : List Byte := byte x.station.val :: be16 x.moveout

theorem at8_neighbourBytes : ∀ {xs : List Neighbour} {k : Nat} (low : k < xs.length) (rest : List Byte) (n : Nat),
    n < 3 → at8 ((xs.map neighbourBytes).flatten ++ rest) (3 * k + n) = at8 (neighbourBytes xs[k]) n
  | x :: xs, 0, _, rest, n, small => by
    match n, small with
    | 0, _ | 1, _ | 2, _ => rfl
  | x :: xs, k + 1, low, rest, n, small => by
    have next := at8_neighbourBytes (Nat.lt_of_succ_lt_succ low) rest n small
    rw [show 3 * (k + 1) + n = 3 * k + n + 3 by omega]
    exact next

/-- R77: an entry of a written list reads back. -/
theorem writeNeighbourList_entry {xs : List Neighbour} {k : Nat} (low : k < xs.length) (moveout : xs[k].moveout < 65536) :
    at8 (writeNeighbourList xs) (1 + 3 * k) = xs[k].station.val ∧
      at16 (writeNeighbourList xs) (2 + 3 * k) = xs[k].moveout := by
  have field (n : Nat) (small : n < 3) : at8 (writeNeighbourList xs) (3 * k + n + 1) = at8 (neighbourBytes xs[k]) n :=
    at8_neighbourBytes low _ n small
  constructor
  · rw [Nat.add_comm]
    exact (field 0 (by decide)).trans (byte_toNat _ (lt_trans xs[k].station.isLt (by decide)))
  · rw [at16, show 2 + 3 * k = 3 * k + 1 + 1 by omega, field 1 (by decide),
      show 3 * k + 1 + 1 + 1 = 3 * k + 2 + 1 by omega, field 2 (by decide)]
    exact be16_parts moveout

/-- R77: a written entry is none that was kept before it. -/
theorem neighboursInRange.fresh {owner : Station} {xs : List Neighbour} (ok : neighboursInRange owner xs) {k : Nat}
    (low : k < xs.length) : ¬ (xs[k].station.val = owner.val ∨
      (xs.take k).any (fun y => decide (y.station.val = xs[k].station.val)) = true) := by
  obtain ⟨-, distinct, range⟩ := ok
  rintro (same | known)
  · exact (range xs[k] (List.getElem_mem low)).1 (Fin.ext same)
  · obtain ⟨y, mem, same⟩ := List.any_eq_true.mp known
    obtain ⟨j, below, rfl⟩ := List.mem_take_iff_getElem.mp mem
    have earlier : j < xs.length ∧ j < k := by omega
    have stations : (xs.map Neighbour.station)[j]'(by simpa using earlier.1) =
        (xs.map Neighbour.station)[k]'(by simpa using low) := by
      simpa [Fin.ext_iff] using same
    exact absurd (distinct.getElem_inj_iff.mp stations) (Nat.ne_of_lt earlier.2)

/-- R77: the entries of a written list are kept one by one. -/
theorem keepNeighbour_written {owner : Station} {xs : List Neighbour} (ok : neighboursInRange owner xs) :
    ∀ k ≤ xs.length, (List.range k).foldl (keepNeighbour owner (writeNeighbourList xs)) ([], 0) = (xs.take k, 0)
  | 0, _ => rfl
  | k + 1, low => by
    obtain ⟨-, -, range⟩ := id ok
    obtain ⟨-, moveoutLow, moveoutHigh⟩ := range xs[k] (List.getElem_mem low)
    obtain ⟨station, moveout⟩ := writeNeighbourList_entry low (by omega)
    have clamped : max 1 (min 16383 xs[k].moveout) = xs[k].moveout := by omega
    rw [List.range_succ, List.foldl_append, keepNeighbour_written ok k (by omega), List.foldl_cons, List.foldl_nil]
    unfold keepNeighbour
    simp only [station, moveout, clamped]
    rw [dif_pos xs[k].station.isLt, if_neg (ok.fresh low), List.take_succ_eq_append_getElem low,
      decide_eq_false (not_not.mpr rfl)]
    rfl

theorem readNeighbourList_write {owner : Station} {xs : List Neighbour} (ok : neighboursInRange owner xs) :
    readNeighbourList owner (writeNeighbourList xs) = ⟨xs, 0⟩ := by
  obtain ⟨length, -, -⟩ := id ok
  have count : at8 (writeNeighbourList xs) 0 = xs.length := byte_toNat _ (by omega)
  rw [readNeighbourList_eq, count, Nat.min_eq_right length, keepNeighbour_written ok _ le_rfl, List.take_length,
    decide_eq_false (Nat.not_lt.mpr length)]
  rfl

/-! ## The lengths of written entries (R167) -/

theorem neighbourBytes_length (xs : List Neighbour) : ((xs.map neighbourBytes).flatten).length = 3 * xs.length := by
  simp [List.length_flatten, Function.comp_def, neighbourBytes, Nat.mul_comm]

theorem writeNeighbourList_eq (xs : List Neighbour) : writeNeighbourList xs =
    byte xs.length :: ((xs.map neighbourBytes).flatten ++
      (List.replicate (15 - xs.length) ([0xFF, 0, 0] : List Byte)).flatten) := rfl

theorem writeNeighbourList_length {xs : List Neighbour} (short : xs.length ≤ 15) : (writeNeighbourList xs).length = 46 := by
  have unused : ((List.replicate (15 - xs.length) ([0xFF, 0, 0] : List Byte)).flatten).length = 3 * (15 - xs.length) := by
    simp [Nat.mul_comm]
  rw [writeNeighbourList_eq, List.length_cons, List.length_append, neighbourBytes_length, unused]
  omega

theorem writeNeighbourList_unused (xs : List Neighbour) : (writeNeighbourList xs).drop (1 + 3 * xs.length) =
    (List.replicate (15 - xs.length) ([0xFF, 0, 0] : List Byte)).flatten := by
  rw [writeNeighbourList_eq, Nat.add_comm, List.drop_succ_cons, List.drop_left' (neighbourBytes_length xs)]

/-! ## Unit settings (R151) -/

theorem readMask_marks : ∀ event station line config fault : Bool,
    readMask (marksByte [event, station, line, config, fault]).toNat = ⟨event, station, line, config, fault⟩ := by
  decide

theorem readSettings_write {x : Settings} (silenceLow : 1 ≤ x.silence) (silenceHigh : x.silence ≤ 255)
    (gap : x.gap ≤ 64) : readSettings (writeSettings x) = ⟨x, 0⟩ := by
  have bytes : at8 (writeSettings x) 0 = x.forwarding.a.toNat ∧ at8 (writeSettings x) 1 = x.forwarding.b.toNat ∧
      at8 (writeSettings x) 3 = x.retention.code ∧ at8 (writeSettings x) 4 = x.silence ∧
      at8 (writeSettings x) 5 = x.gap :=
    ⟨at8_markByte _, at8_markByte _, byte_toNat _ (by cases x.retention <;> decide), byte_toNat _ (by omega),
      byte_toNat _ (by omega)⟩
  obtain ⟨a, b, retention, silence, gapEq⟩ := bytes
  have mask : readMask (at8 (writeSettings x) 2) = x.mask := readMask_marks _ _ _ _ _
  simp only [readSettings, a, b, retention, silence, gapEq, mask, clampCode_toNat, readRetention_code,
    clampTo_of_mem silenceLow silenceHigh, clampTo_of_mem (Nat.zero_le _) gap]

end Sys2Proof.Machine
end

section
/-! PROOFS. Table entries in a bank: loaded, reported and loaded back (R154, R155). -/

namespace Sys2Proof.Machine

/-! ## A load of one entry -/

theorem Bank.load_stations (b : Bank) (i : Station) (bs : List Byte) : b.load .stations i.val bs =
    ⟨{ b with stations := b.stations.set i.val (readStationEntry bs).value }, (readStationEntry bs).clamps⟩ :=
  dif_pos i.isLt

theorem Bank.load_sets (b : Bank) (n : Fin 8) (bs : List Byte) : b.load .sets n.val bs =
    ⟨{ b with sets := b.sets.set n.val (readDetectorSet bs).value }, (readDetectorSet bs).clamps⟩ :=
  dif_pos n.isLt

theorem Bank.load_neighbours (b : Bank) (i : Station) (bs : List Byte) : b.load .neighbours i.val bs =
    ⟨{ b with neighbours := b.neighbours.set i.val (readNeighbourList i bs).value }, (readNeighbourList i bs).clamps⟩ :=
  dif_pos i.isLt

theorem Bank.load_params (b : Bank) (n : Nat) (bs : List Byte) : b.load .params n bs =
    ⟨{ b with params := (readAssocParams bs).value }, (readAssocParams bs).clamps⟩ := rfl

theorem Vector.set_same_fin {α : Type} {n : Nat} (v : Vector α n) (i : Fin n) (x : α) : (v.set i.val x)[i] = x := by
  rw [Vector.get_set_fin, if_pos rfl]

/-! ## What is stored -/

theorem Bank.load_station_value (b : Bank) (i : Station) (bs : List Byte) :
    (b.load .stations i.val bs).value.station i = (readStationEntry bs).value := by
  rw [Bank.load_stations, Bank.station, Vector.set_same_fin]

theorem Bank.load_set_value (b : Bank) (n : Fin 8) (bs : List Byte) :
    (b.load .sets n.val bs).value.sets[n] = (readDetectorSet bs).value := by
  rw [Bank.load_sets, Vector.set_same_fin]

theorem Bank.load_neighbours_value (b : Bank) (i : Station) (bs : List Byte) :
    (b.load .neighbours i.val bs).value.neighbourList i = (readNeighbourList i bs).value := by
  rw [Bank.load_neighbours, Bank.neighbourList, Vector.set_same_fin]

/-- R20: a station entry as stored, and its clamps. -/
theorem readStationEntry_eq (bs : List Byte) :
    let role : Nat → Role := fun n => if n = 1 then .z else if n = 2 then .h1 else if n = 3 then .h2 else .off
    let role1 := role (at8 bs 1 / 16)
    let role2 := role (at8 bs 1 % 16)
    let role3 := role (at8 bs 2 / 16)
    let mode : Mode := if at8 bs 2 % 16 = 1 then .vector else .vertical
    let unfit := rolesUnfit mode role1 role2 role3
    readStationEntry bs =
      ⟨{ enable := decide (at8 bs 0 ≠ 0), role1 := if unfit then .z else role1, role2 := role2, role3 := role3
         mode := mode, set := (readSet (at8 bs 3 / 16)).1, weight := max 1 (min 3 (at8 bs 3 % 16)) },
        (decide (1 < at8 bs 0)).toNat + (decide (3 < at8 bs 1 / 16)).toNat + (decide (3 < at8 bs 1 % 16)).toNat +
          (decide (3 < at8 bs 2 / 16)).toNat + (decide (1 < at8 bs 2 % 16)).toNat +
          (decide (7 < at8 bs 3 / 16)).toNat +
          (decide (at8 bs 3 % 16 = 0 ∨ 3 < at8 bs 3 % 16)).toNat + unfit.toNat⟩ := by
  intro role role1 role2 role3 mode unfit
  have weight : clampTo 1 3 (at8 bs 3 % 16) =
      (max 1 (min 3 (at8 bs 3 % 16)), (decide (at8 bs 3 % 16 = 0 ∨ 3 < at8 bs 3 % 16)).toNat) := by
    rw [clampTo_outside (by decide), decide_eq_decide.mpr
      (show (at8 bs 3 % 16 < 1 ∨ 3 < at8 bs 3 % 16) ↔ (at8 bs 3 % 16 = 0 ∨ 3 < at8 bs 3 % 16) by omega)]
  simp only [readStationEntry, highNibble, lowNibble, clampCode_above, readRole_eq, readMode_eq, (readSet_eq _).2, weight,
    fixRoles_eq]
  rfl

/-! ## Reported and loaded back -/

/-- R155: an entry reported is of the loaded length, and loading it back changes nothing and clamps nothing. -/
def Bank.loadsBack (b : Bank) (t : TableId) (n : Nat) : Prop :=
  (b.entryBytes t n).length = t.entrySize ∧ b.load t n (b.entryBytes t n) = ⟨b, 0⟩

theorem Bank.entryBytes_station (b : Bank) (i : Station) :
    b.entryBytes .stations i.val = writeStationEntry (b.station i) := dif_pos i.isLt

theorem Bank.entryBytes_set (b : Bank) (n : Fin 8) : b.entryBytes .sets n.val = writeDetectorSet b.sets[n] :=
  dif_pos n.isLt

theorem Bank.entryBytes_neighbours (b : Bank) (i : Station) :
    b.entryBytes .neighbours i.val = writeNeighbourList (b.neighbourList i) := dif_pos i.isLt

theorem Vector.set_getElem_fin {α : Type} {n : Nat} (v : Vector α n) (i : Fin n) : v.set i.val v[i] = v :=
  Vector.set_getElem_self i.isLt

theorem Bank.loadsBack_station {b : Bank} {i : Station} (ok : (b.station i).inRange) : b.loadsBack .stations i.val := by
  rw [Bank.loadsBack, Bank.entryBytes_station, Bank.load_stations, readStationEntry_write ok]
  exact ⟨rfl, congrArg (fun v => Clamped.mk { b with stations := v } 0) (Vector.set_getElem_fin b.stations i)⟩

theorem Bank.loadsBack_set {b : Bank} {n : Fin 8} (ok : b.sets[n].inRange) : b.loadsBack .sets n.val := by
  rw [Bank.loadsBack, Bank.entryBytes_set, Bank.load_sets, readDetectorSet_write ok]
  exact ⟨rfl, congrArg (fun v => Clamped.mk { b with sets := v } 0) (Vector.set_getElem_fin b.sets n)⟩

theorem Bank.loadsBack_neighbours {b : Bank} {i : Station} (ok : neighboursInRange i (b.neighbourList i)) :
    b.loadsBack .neighbours i.val := by
  rw [Bank.loadsBack, Bank.entryBytes_neighbours, Bank.load_neighbours, readNeighbourList_write ok]
  exact ⟨writeNeighbourList_length ok.1,
    congrArg (fun v => Clamped.mk { b with neighbours := v } 0) (Vector.set_getElem_fin b.neighbours i)⟩

theorem Bank.loadsBack_params {b : Bank} (ok : b.params.inRange) (n : Nat) : b.loadsBack .params n := by
  rw [Bank.loadsBack, Bank.load_params, Bank.entryBytes, readAssocParams_write ok]
  exact ⟨rfl, rfl⟩

/-- R155: what a load has stored is in range, so that it loads back. -/
theorem Bank.load_loadsBack (b : Bank) (t : TableId) (n : Nat) (bs : List Byte) (low : n < t.entries) :
    (b.load t n bs).value.loadsBack t n := by
  cases t with
  | stations =>
    refine Bank.loadsBack_station (i := ⟨n, low⟩) ?_
    rw [Bank.load_station_value b ⟨n, low⟩ bs]
    exact readStationEntry_inRange bs
  | sets =>
    refine Bank.loadsBack_set (n := ⟨n, low⟩) ?_
    rw [Bank.load_set_value b ⟨n, low⟩ bs]
    exact readDetectorSet_inRange bs
  | neighbours =>
    refine Bank.loadsBack_neighbours (i := ⟨n, low⟩) ?_
    rw [Bank.load_neighbours_value b ⟨n, low⟩ bs]
    exact readNeighbourList_inRange _ bs
  | params => exact Bank.loadsBack_params (readAssocParams_inRange bs) n

/-- Settles O58: one equation per table for what is stored, and one per layout for what is read back. -/
theorem tableEntriesRoundTrip : Obligations.TableEntriesRoundTrip := by
  refine ⟨fun b i bs => ?_, fun b n bs => ?_, fun b i bs => ?_, fun b n bs => ?_, fun b n => ?_, fun b i => ?_,
    fun b t n bs low => ?_, fun bs => ?_⟩
  · intro role role1 role2 role3 mode unfit held
    have stored := readStationEntry_eq bs
    have value : held.value.station i = (readStationEntry bs).value := Bank.load_station_value b i bs
    have clamps : held.clamps = (readStationEntry bs).clamps := congrArg Clamped.clamps (Bank.load_stations b i bs)
    rw [value, clamps, stored]
    exact ⟨rfl, (readSet_eq _).1, rfl⟩
  · intro s l rOn rOff held
    have stored := readDetectorSet_eq bs
    have value : held.value.sets[n] = (readDetectorSet bs).value := Bank.load_set_value b n bs
    have clamps : held.clamps = (readDetectorSet bs).clamps := congrArg Clamped.clamps (Bank.load_sets b n bs)
    rw [value, clamps, stored]
    exact ⟨rfl, rfl⟩
  · intro count kept held
    have stored := readNeighbourList_eq i bs
    have value : held.value.neighbourList i = (readNeighbourList i bs).value := Bank.load_neighbours_value b i bs
    have clamps : held.clamps = (readNeighbourList i bs).clamps :=
      congrArg Clamped.clamps (Bank.load_neighbours b i bs)
    rw [value, clamps, stored]
    exact ⟨rfl, rfl⟩
  · intro held
    have stored : held = _ := (Bank.load_params b n bs).trans (by rw [readAssocParams_eq])
    rw [stored]
    exact ⟨rfl, rfl⟩
  · rw [Bank.entryBytes_set]
    rfl
  · rw [Bank.entryBytes_neighbours]
    exact writeNeighbourList_unused _
  · obtain ⟨length, back⟩ := Bank.load_loadsBack b t n bs low
    exact ⟨length, (congrArg Clamped.value back).trans rfl, (congrArg Clamped.clamps back).trans rfl⟩
  · obtain ⟨⟨silenceLow, silenceHigh⟩, gap⟩ := readSettings_inRange bs
    have back := readSettings_write silenceLow silenceHigh gap
    exact ⟨rfl, (congrArg Clamped.value back).trans rfl, (congrArg Clamped.clamps back).trans rfl⟩

end Sys2Proof.Machine
end
